-- ==== Sys2Proof/Word.lean ====
section
/-! DEFINITION. The plain word types of the device: a byte on the wire and a value of the hall clock. -/

namespace Sys2Proof

/-- One byte on a station line, the drive line or the supervisor port. -/
abbrev Byte := BitVec 8

/-- A value of the hall clock: a count of deciseconds from power-on, 32 bits, wrapping (manual 5.3). -/
abbrev Time := BitVec 32

end Sys2Proof
end

