-- ==== Sys2Proof/Config.lean ====
section
/-! DEFINITION. The free values: constants with no body, for what the manual leaves open. Nothing can be proved of
their values, so a claim about the machine holds whatever they are. -/

namespace Sys2Proof.Config

/-- The byte of a STATUS_REPLY that the manual gives no value for: the class byte of a job the station does not
have (R188 gives only number 0). The n-th such byte of a run is `freeByte n`. See notes/assumptions/13.md. -/
opaque freeByte : Nat → Byte

/-- The order in which expiries that fall due at the same decisecond are taken, which the manual leaves open
(R103: "taken in either order"): the place at which the n-th of them is put among those before it. See
notes/assumptions/2.md. -/
opaque freeOrder : Nat → Nat

end Sys2Proof.Config
end

