-- ==== Sys2Proof/Syntax.lean ====
section
/-! DEFINITION. The commands of the device: one constructor for each row of spec/opcode_table.json, in the
table's order, with the operands the frame, transaction or event carries (R184, R198). -/

namespace Sys2Proof

/-- A station; station number n of the manual (1..12) is index n − 1 (manual 5.2). -/
abbrev Station := Fin 12

/-- A magazine slot; slot number n of the manual (1..64) is index n − 1 (manual 5.2). -/
abbrev SlotIx := Fin 64

/-- A serial port with a receiver and an error count: twelve station ports and the drive port (R182, R183). -/
inductive Port where
  | station (i : Station)
  | drive
deriving DecidableEq, Repr

/-- The eleven fields of a SETUP request, each in its wire width (R57, R184, R198). -/
structure SetupFields where
  material : BitVec 16
  shape    : Byte
  size     : BitVec 16
  partLen  : BitVec 32
  cutOff   : BitVec 16
  facing   : BitVec 16
  remnant  : BitVec 32
  cycle    : BitVec 16
  margin   : Byte
  capacity : BitVec 16
  exchange : BitVec 16
deriving DecidableEq, Repr

/-- The command byte of a write transaction as it arrives, and how many bytes were clocked after it before nCS rose, where no
command follows: none, TAG, or TAG and the first byte of LEN. Before a command that is taken `clocked` is 0, the command
itself carrying the rest (R191; notes/assumptions/30.md). -/
structure CommandByte where
  code    : Byte
  clocked : Nat
deriving DecidableEq, Repr

/-- A write transaction of the supervisor port after its command byte (R191): TAG, LEN and the payload bytes that
had been clocked in when nCS rose, which may be fewer or more than LEN. -/
structure Write where
  tag   : Byte
  len   : BitVec 16
  bytes : List Byte
deriving DecidableEq, Repr

/-- The write transaction that carries `payload` whole. -/
def Write.of (tag : Byte) (payload : List Byte) : Write :=
  ⟨tag, BitVec.ofNat 16 payload.length, payload⟩

/-- The commands: requests of a station, answers and levels of the drive, expiries, and transactions of the
supervisor. A supervisor row stands for a write transaction of its command code; the rows that share a code
(HALL_PARAM, STATION_PARAM, STATION_HOLD, RECOVER, MODE) are told apart by LEN or by the option byte, which
`Instr.wellFormed` holds them to. -/
inductive Instr where
  | powerOnReset
  | hello (i : Station)
  | setup (i : Station) (f : SetupFields)
  | load (i : Station) (measured : Option (BitVec 32))
  | partOff (i : Station) (count : BitVec 16) (scrap : Byte) (advance : Option (BitVec 32))
  | barEnd (i : Station) (remnant : Option (BitVec 32))
  | zoneGrant (i : Station) (window : BitVec 16)
  | zoneClose (i : Station)
  | status (i : Station) (page : Option Byte)
  | detach (i : Station)
  | unknownType (i : Station) (type : Byte)
  | frameDiscard (p : Port) (bytes : List Byte)
  | interByteTimeout (p : Port)
  | done (tag : Byte)
  | fault (tag : Byte) (code : Byte)
  | ping (tag : Byte)
  | drvRdyRise
  | drvRdyFall
  | pingDue
  | moveDeadline
  | linkTimeout (i : Station)
  | reservationHold (i : Station)
  | backoffExpiry (job : Nat)
  | openUntilExpiry (i : Station)
  | zoneWaitDeadline
  | commandByte (b : CommandByte)
  | readTransaction (clocked : Nat)
  | unknownCmd (code : Byte) (w : Write)
  | stockEnter (w : Write)
  | stockRemove (w : Write)
  | slotBlock (w : Write)
  | slotUnblock (w : Write)
  | tableCursor (w : Write)
  | tableRead (w : Write)
  | hallParamRead (w : Write)
  | hallParamWrite (w : Write)
  | stationParamRead (w : Write)
  | stationParamWrite (w : Write)
  | arbiterOrder (w : Write)
  | hallHold (w : Write)
  | stationHold (w : Write)
  | stationHoldRelease (w : Write)
  | jobCancel (w : Write)
  | toteAdd (w : Write)
  | toteWithdraw (w : Write)
  | outboundCleared (w : Write)
  | stationTote (w : Write)
  | recoverRetry (w : Write)
  | recoverResume (w : Write)
  | recoverReturn (w : Write)
  | recoverClear (w : Write)
  | manualMove (w : Write)
  | attentionRead (w : Write)
  | attentionClearAll (w : Write)
  | attentionEnable (w : Write)
  | attentionSummary (w : Write)
  | modeProduction (w : Write)
  | modeCommission (w : Write)
  | hallReset (w : Write)
  | stationRestart (w : Write)
  | missingStopBit (p : Port)
deriving DecidableEq, Repr

end Sys2Proof
end

