-- ==== Sys2Proof/WellFormed.lean ====
section
/-! DEFINITION. When the operands of a command fit its row of the table: a row that names a TYPE, a code or an
option carries one that belongs to it. The meanings are total; this says which terms stand for their own row. -/

namespace Sys2Proof

/-- A TYPE of a station request (R184, R198). -/
def knownRequestType (type : Byte) : Bool := 1 ≤ type.toNat && type.toNat ≤ 9

/-- A command code of the supervisor port (R198). -/
def knownCommandCode (code : Byte) : Bool :=
  [0x10, 0x11, 0x12, 0x13, 0x20, 0x21, 0x30, 0x31, 0x40, 0x41, 0x42, 0x43, 0x50, 0x51, 0x52, 0x53, 0x60, 0x61,
   0x70, 0x71, 0x72, 0x73, 0x80, 0x81, 0x82].contains code.toNat

/-- The first payload byte of a write transaction, the option of RECOVER, MODE and STATION_HOLD; 0 when absent. -/
def Write.option (w : Write) : Nat := (w.bytes.getD 0 0).toNat

/-- A command whose operands belong to its own row of the table.
  * An UNKNOWN_TYPE carries a TYPE that is no station request (R186); an UNKNOWN_CMD a code the port does not know
    (R192), and neither it nor a COMMAND_BYTE is 00h, which starts a read transaction (R191). A COMMAND_BYTE has at most
    two bytes clocked after it: with a third, TAG and both LEN bytes have arrived and a command is taken (R191).
  * A gathered frame that is discarded starts with SYNC (R182, R183); a FAULT with code 0 is such a discard (R125).
  * Of the rows that share a command code, each carries its own LEN or option; what is no row's own belongs to the
    first of them (the rule of the code refuses it; notes/assumptions/15.md). -/
def Instr.wellFormed : Instr → Bool
  | .unknownType _ type => !knownRequestType type
  | .unknownCmd code _ => !knownCommandCode code && code != 0
  | .commandByte b => b.code != 0 && decide (b.clocked ≤ 2)
  | .frameDiscard _ bytes => bytes.head? == some 0xA5#8
  | .fault _ code => code != 0
  | .hallParamRead w => w.len != 5
  | .hallParamWrite w => w.len == 5
  | .stationParamRead w => w.len != 6
  | .stationParamWrite w => w.len == 6
  | .stationHold w => w.option != 2
  | .stationHoldRelease w => w.option == 2
  | .recoverRetry w => !([2, 3, 4].contains w.option)
  | .recoverResume w => w.option == 2
  | .recoverReturn w => w.option == 3
  | .recoverClear w => w.option == 4
  | .modeProduction w => w.option != 1
  | .modeCommission w => w.option == 1
  | .powerOnReset => true
  | .hello _ => true
  | .setup _ _ => true
  | .load _ _ => true
  | .partOff _ _ _ _ => true
  | .barEnd _ _ => true
  | .zoneGrant _ _ => true
  | .zoneClose _ => true
  | .status _ _ => true
  | .detach _ => true
  | .interByteTimeout _ => true
  | .done _ => true
  | .ping _ => true
  | .drvRdyRise => true
  | .drvRdyFall => true
  | .pingDue => true
  | .moveDeadline => true
  | .linkTimeout _ => true
  | .reservationHold _ => true
  | .backoffExpiry _ => true
  | .openUntilExpiry _ => true
  | .zoneWaitDeadline => true
  | .readTransaction _ => true
  | .stockEnter _ => true
  | .stockRemove _ => true
  | .slotBlock _ => true
  | .slotUnblock _ => true
  | .tableCursor _ => true
  | .tableRead _ => true
  | .arbiterOrder _ => true
  | .hallHold _ => true
  | .jobCancel _ => true
  | .toteAdd _ => true
  | .toteWithdraw _ => true
  | .outboundCleared _ => true
  | .stationTote _ => true
  | .manualMove _ => true
  | .attentionRead _ => true
  | .attentionClearAll _ => true
  | .attentionEnable _ => true
  | .attentionSummary _ => true
  | .hallReset _ => true
  | .stationRestart _ => true
  | .missingStopBit _ => true

end Sys2Proof
end

