-- ==== Sys2Proof/Decode.lean ====
section
/-! DEFINITION. The wire: byte order, the CRC of the serial frames (R182), the reading of a gathered station or drive
frame as a command (R184, R186, R198), its writing, the transactions of the supervisor port (R191, R192, R198), and the
word reading of the command table, whose rows give no bits. -/

namespace Sys2Proof

/-- A 16-bit field from its two bytes, low byte first (R182). -/
def wire16 (lo hi : Byte) : BitVec 16 := hi ++ lo

/-- A 32-bit field from its four bytes, low byte first (R182). -/
def wire32 (b0 b1 b2 b3 : Byte) : BitVec 32 := b3 ++ b2 ++ b1 ++ b0

/-- The bytes of a 16-bit field, low byte first. -/
def bytes16 (v : BitVec 16) : List Byte := [v.extractLsb' 0 8, v.extractLsb' 8 8]

/-- The bytes of a 32-bit field, low byte first. -/
def bytes32 (v : BitVec 32) : List Byte :=
  [v.extractLsb' 0 8, v.extractLsb' 8 8, v.extractLsb' 16 8, v.extractLsb' 24 8]

/-- A number in one byte of a payload. -/
def nat8 (n : Nat) : Byte := BitVec.ofNat 8 n

/-- A number in a two-byte field of a payload. -/
def nat16 (n : Nat) : List Byte := bytes16 (BitVec.ofNat 16 n)

/-- A number in a four-byte field of a payload. -/
def nat32 (n : Nat) : List Byte := bytes32 (BitVec.ofNat 32 n)

/-- The SYNC byte that starts every serial frame (R182). -/
def syncByte : Byte := 0xA5#8

/-- The CRC register shifted by `n` bits with the polynomial 1021h, most significant bit first (R182). -/
def crcShift : Nat → BitVec 16 → BitVec 16
  | 0, crc => crc
  | n + 1, crc => crcShift n (if crc.msb then (crc <<< 1) ^^^ 0x1021#16 else crc <<< 1)

/-- One byte taken into the CRC: no reflection of input bytes (R182). -/
def crcByte (crc : BitVec 16) (b : Byte) : BitVec 16 := crcShift 8 (crc ^^^ (b ++ 0#8))

/-- The CRC of a run of bytes: initial value FFFFh, no final inversion (R182). -/
def crc16 (bs : List Byte) : BitVec 16 := bs.foldl crcByte 0xFFFF#16

/-- The bytes of a serial frame on the wire: SYNC, LEN, TYPE, PAYLOAD and the CRC over LEN, TYPE and PAYLOAD,
low byte first (R182). -/
def frameBytes (type : Byte) (payload : List Byte) : List Byte :=
  let body := nat8 payload.length :: type :: payload
  syncByte :: (body ++ bytes16 (crc16 body))

/-- The eleven fields of a SETUP from its 24 payload bytes (R198). -/
def setupOfBytes : List Byte → Option SetupFields
  | [m0, m1, sh, z0, z1, l0, l1, l2, l3, w0, w1, f0, f1, r0, r1, r2, r3, c0, c1, g, q0, q1, e0, e1] =>
      some ⟨wire16 m0 m1, sh, wire16 z0 z1, wire32 l0 l1 l2 l3, wire16 w0 w1, wire16 f0 f1, wire32 r0 r1 r2 r3,
        wire16 c0 c1, g, wire16 q0 q1, wire16 e0 e1⟩
  | _ => none

/-- The 24 payload bytes of a SETUP (R198). -/
def setupBytes (f : SetupFields) : List Byte :=
  bytes16 f.material ++ [f.shape] ++ bytes16 f.size ++ bytes32 f.partLen ++ bytes16 f.cutOff ++ bytes16 f.facing ++
    bytes32 f.remnant ++ bytes16 f.cycle ++ [f.margin] ++ bytes16 f.capacity ++ bytes16 f.exchange

/-- A gathered frame of station `i` with a good CRC, read as a command: `none` when its TYPE is a request and its LEN
is not one the TYPE permits (R183, R184); a TYPE that is no request is taken whatever its LEN (R186). -/
def decodeStationFrame (i : Station) (type : Byte) (payload : List Byte) : Option Instr :=
  if type = 0x01#8 then (if payload = [] then some (.hello i) else none)
  else if type = 0x02#8 then (setupOfBytes payload).map (.setup i)
  else if type = 0x03#8 then
    match payload with
    | [] => some (.load i none)
    | [a, b, c, d] => some (.load i (some (wire32 a b c d)))
    | _ => none
  else if type = 0x04#8 then
    match payload with
    | [c0, c1, s] => some (.partOff i (wire16 c0 c1) s none)
    | [c0, c1, s, a, b, c, d] => some (.partOff i (wire16 c0 c1) s (some (wire32 a b c d)))
    | _ => none
  else if type = 0x05#8 then
    match payload with
    | [] => some (.barEnd i none)
    | [a, b, c, d] => some (.barEnd i (some (wire32 a b c d)))
    | _ => none
  else if type = 0x06#8 then
    match payload with
    | [a, b] => some (.zoneGrant i (wire16 a b))
    | _ => none
  else if type = 0x07#8 then (if payload = [] then some (.zoneClose i) else none)
  else if type = 0x08#8 then
    match payload with
    | [] => some (.status i none)
    | [p] => some (.status i (some p))
    | _ => none
  else if type = 0x09#8 then (if payload = [] then some (.detach i) else none)
  else some (.unknownType i type)

/-- A gathered frame of the drive with a good CRC, read as a command: `none` for a TYPE the device does not take from
the drive, a LEN its TYPE does not permit, and a FAULT with code 0 (R125, R183). -/
def decodeDriveFrame (type : Byte) (payload : List Byte) : Option Instr :=
  if type = 0x21#8 then (match payload with | [t] => some (.done t) | _ => none)
  else if type = 0x22#8 then
    match payload with
    | [t, c] => if c = 0 then none else some (.fault t c)
    | _ => none
  else if type = 0x23#8 then (match payload with | [t] => some (.ping t) | _ => none)
  else none

/-- The port, TYPE and payload with which a command travels on a serial line (R184, R198); `none` for a command that
is no frame. An UNKNOWN_TYPE is written with an empty payload. -/
def encodeFrame : Instr → Option (Port × Byte × List Byte)
  | .hello i => some (.station i, 0x01#8, [])
  | .setup i f => some (.station i, 0x02#8, setupBytes f)
  | .load i none => some (.station i, 0x03#8, [])
  | .load i (some b) => some (.station i, 0x03#8, bytes32 b)
  | .partOff i c s none => some (.station i, 0x04#8, bytes16 c ++ [s])
  | .partOff i c s (some a) => some (.station i, 0x04#8, bytes16 c ++ [s] ++ bytes32 a)
  | .barEnd i none => some (.station i, 0x05#8, [])
  | .barEnd i (some r) => some (.station i, 0x05#8, bytes32 r)
  | .zoneGrant i w => some (.station i, 0x06#8, bytes16 w)
  | .zoneClose i => some (.station i, 0x07#8, [])
  | .status i none => some (.station i, 0x08#8, [])
  | .status i (some p) => some (.station i, 0x08#8, [p])
  | .detach i => some (.station i, 0x09#8, [])
  | .unknownType i t => some (.station i, t, [])
  | .done t => some (.drive, 0x21#8, [t])
  | .fault t c => some (.drive, 0x22#8, [t, c])
  | .ping t => some (.drive, 0x23#8, [t])
  | _ => none

/-- A gathered frame of any serial port, read as a command. -/
def decodeFrame : Port → Byte → List Byte → Option Instr
  | .station i, type, payload => decodeStationFrame i type payload
  | .drive, type, payload => decodeDriveFrame type payload

/-! ### Transactions of the supervisor port (R191, R198) -/

/-- HALL_PARAM with or without a value, by its LEN (R195). -/
def hallParamRow (w : Write) : Instr := if w.len = 5 then .hallParamWrite w else .hallParamRead w

/-- STATION_PARAM with or without a value, by its LEN (R195). -/
def stationParamRow (w : Write) : Instr := if w.len = 6 then .stationParamWrite w else .stationParamRead w

/-- STATION_HOLD by its action (R102). -/
def stationHoldRow (w : Write) : Instr := if w.option = 2 then .stationHoldRelease w else .stationHold w

/-- RECOVER by its option (R159). -/
def recoverRow (w : Write) : Instr :=
  match w.option with
  | 2 => .recoverResume w
  | 3 => .recoverReturn w
  | 4 => .recoverClear w
  | _ => .recoverRetry w

/-- MODE by the mode wanted (R196). -/
def modeRow (w : Write) : Instr := if w.option = 1 then .modeCommission w else .modeProduction w

/-- The command of a code of the supervisor port; a code that is none is UNKNOWN_CMD (R192, R198). -/
def decodeCommand (code : Byte) (w : Write) : Instr :=
  match code.toNat with
  | 0x10 => .stockEnter w
  | 0x11 => .stockRemove w
  | 0x12 => .slotBlock w
  | 0x13 => .slotUnblock w
  | 0x20 => .tableCursor w
  | 0x21 => .tableRead w
  | 0x30 => hallParamRow w
  | 0x31 => stationParamRow w
  | 0x40 => .arbiterOrder w
  | 0x41 => .hallHold w
  | 0x42 => stationHoldRow w
  | 0x43 => .jobCancel w
  | 0x50 => .toteAdd w
  | 0x51 => .toteWithdraw w
  | 0x52 => .outboundCleared w
  | 0x53 => .stationTote w
  | 0x60 => recoverRow w
  | 0x61 => .manualMove w
  | 0x70 => .attentionRead w
  | 0x71 => .attentionClearAll w
  | 0x72 => .attentionEnable w
  | 0x73 => .attentionSummary w
  | 0x80 => modeRow w
  | 0x81 => .hallReset w
  | 0x82 => .stationRestart w
  | _ => .unknownCmd code w

/-- What a transaction brings about, from the bytes on MOSI between the fall and the rise of nCS (R191): nothing without a
byte; after 00h a read of the answer; otherwise the arrival of the command byte, and the command at the rise, unless TAG
and both LEN bytes had not arrived: then the command byte alone, with the bytes clocked after it. The payload is every byte after LEN: fewer than LEN is a refusal, and what is beyond
LEN is ignored, both by the command itself. -/
def decodeTransaction : List Byte → List Instr
  | [] => []
  | code :: rest =>
    if code = 0 then [.readTransaction rest.length]
    else
      match rest with
      | tag :: lo :: hi :: payload => [.commandByte ⟨code, 0⟩, decodeCommand code ⟨tag, wire16 lo hi, payload⟩]
      | _ => [.commandByte ⟨code, rest.length⟩]

/-- The command code and the rest of the write transaction of a supervisor command (R198). -/
def encodeCommand : Instr → Option (Byte × Write)
  | .stockEnter w => some (0x10#8, w)
  | .stockRemove w => some (0x11#8, w)
  | .slotBlock w => some (0x12#8, w)
  | .slotUnblock w => some (0x13#8, w)
  | .tableCursor w => some (0x20#8, w)
  | .tableRead w => some (0x21#8, w)
  | .hallParamRead w => some (0x30#8, w)
  | .hallParamWrite w => some (0x30#8, w)
  | .stationParamRead w => some (0x31#8, w)
  | .stationParamWrite w => some (0x31#8, w)
  | .arbiterOrder w => some (0x40#8, w)
  | .hallHold w => some (0x41#8, w)
  | .stationHold w => some (0x42#8, w)
  | .stationHoldRelease w => some (0x42#8, w)
  | .jobCancel w => some (0x43#8, w)
  | .toteAdd w => some (0x50#8, w)
  | .toteWithdraw w => some (0x51#8, w)
  | .outboundCleared w => some (0x52#8, w)
  | .stationTote w => some (0x53#8, w)
  | .recoverRetry w => some (0x60#8, w)
  | .recoverResume w => some (0x60#8, w)
  | .recoverReturn w => some (0x60#8, w)
  | .recoverClear w => some (0x60#8, w)
  | .manualMove w => some (0x61#8, w)
  | .attentionRead w => some (0x70#8, w)
  | .attentionClearAll w => some (0x71#8, w)
  | .attentionEnable w => some (0x72#8, w)
  | .attentionSummary w => some (0x73#8, w)
  | .modeProduction w => some (0x80#8, w)
  | .modeCommission w => some (0x80#8, w)
  | .hallReset w => some (0x81#8, w)
  | .stationRestart w => some (0x82#8, w)
  | .unknownCmd code w => some (code, w)
  | _ => none

/-! ### The command table's words -/

/-- The command a word spells by the bits of spec/opcode_table.json. The table gives no row any bits, so no word
spells a command (notes/assumptions/23.md). -/
def decodeTableWord (_nbits _w : Nat) : Option Instr := none

end Sys2Proof
end

