-- ==== Sys2Proof/Machine/State.lean ====
section
/-! DEFINITION. The state of the device as plain data: every block's records, tables, counters and ports (manual 2.1),
the queue of waiting commands, and the state after power-on reset. -/

namespace Sys2Proof.Machine

/-- Why a command stops the machine. The manual gives every command an effect or a refusal answer, so no meaning
raises a fault and the type has no constructor. -/
inductive Fault where
deriving DecidableEq, Repr

/-- Why a command has no meaning. -/
inductive Refusal where
  /-- Raised only by an arm of `exec` whose command has no meaning yet; no arm does. Safe: the machine stops. -/
  | notModelled (mnemonic : String)
deriving DecidableEq, Repr

/-! ### Bars and the magazine table -/

/-- Cross-section shape of stock (R1). -/
inductive Shape where
  | round | hex | square
deriving DecidableEq, Repr

/-- A stock code: material, section and size; equal when all three are equal (R1). -/
structure Stock where
  material : Nat
  shape    : Shape
  size     : Nat
deriving DecidableEq, Repr

/-- A bar record (R1). -/
structure Bar where
  tag    : Nat
  stock  : Stock
  length : Nat
  stamp  : Nat
deriving DecidableEq, Repr

/-- A slot record with the parts its state holds (R5). -/
inductive Slot where
  | empty
  | ready (bar : Bar)
  | reserved (bar : Bar) (owner : Nat)
  | out (owner : Nat)
  | blocked (bar : Option Bar)
deriving DecidableEq, Repr

/-! ### Station records -/

/-- A station's setup as held, with C_d, G and E clamped (R57, R58). -/
structure Setup where
  stock    : Stock
  partLen  : Nat
  cutOff   : Nat
  facing   : Nat
  remnant  : Nat
  cycle    : Nat
  margin   : Nat
  capacity : Nat
  exchange : Nat
deriving DecidableEq, Repr

/-- The spindle account (R21). -/
structure Account where
  bar       : Bar
  rem       : Nat
  made      : Nat
  partsLeft : Nat
  lead      : Nat
  inexact   : Bool
deriving DecidableEq, Repr

/-- The bar state with the setup and the account it holds: a setup in every bar state but UNSET, an account in
RUNNING, LOW and ENDING (R21, R46). -/
inductive Spindle where
  | unset
  | noBar (u : Setup)
  | starved (u : Setup)
  | running (u : Setup) (a : Account)
  | low (u : Setup) (a : Account)
  | ending (u : Setup) (a : Account)
deriving DecidableEq, Repr

/-- The name of a bar state (R46, R56). -/
inductive BarState where
  | unset | noBar | running | low | ending | starved
deriving DecidableEq, Repr

/-- The link of a station (R48), with the lost time present in LOST (R46) and whether the reservation hold of this
stay in LOST has fallen due already (R51: it "falls due once for each stay in LOST"). -/
inductive Link where
  | detached
  | up
  | lost (since : Time) (holdTaken : Bool)
deriving DecidableEq, Repr

/-- The tote state with the fill count of the tote under the chute (R72). -/
inductive Tote where
  | noTote
  | filling (fill : Nat)
  | due (fill : Nat)
  | full (fill : Nat)
deriving DecidableEq, Repr

/-- The state of a zone record, with open-until present in OPEN (R139). -/
inductive Zone where
  | closed
  | requested
  | opened (till : Time)
  | inUse
deriving DecidableEq, Repr

/-- A frame awaiting transmission on a serial line: its TYPE and its payload (R182, R198). -/
structure Frame where
  type    : Byte
  payload : List Byte
deriving DecidableEq, Repr

/-- The receiver of a serial port (R183): hunting for SYNC, or gathering, with the bytes taken after SYNC and the
arrival time of the last byte. -/
inductive Receiver where
  | hunt
  | gather (bytes : List Byte) (last : Time)
deriving DecidableEq, Repr

/-- A station record (R46) with the station's zone record (R139) and its port (R190). -/
structure StationRec where
  present      : Bool
  link         : Link
  lastHeard    : Option Time
  spindle      : Spindle
  ring         : List Nat
  lastPart     : Option Time
  drift        : Nat
  driftFlag    : Bool
  cradle       : Option Bar
  tote         : Tote
  totalParts   : Nat
  totalRemnant : Nat
  barsConsumed : Nat
  travel       : Nat
  zone         : Zone
  handoff      : Option Nat
  errors       : Nat
  rx           : Receiver
  tx           : List Frame
deriving DecidableEq, Repr

/-! ### The tote pool, the job queue and the dispatcher -/

/-- The six figures of the tote pool: P_t, S_e, S_r, O_f, O_r, O_c (R70). -/
structure Pool where
  population : Nat
  empties    : Nat
  reserved   : Nat
  outFull    : Nat
  outRes     : Nat
  outCap     : Nat
deriving DecidableEq, Repr

/-- The kinds of job (R93). -/
inductive JobKind where
  | bar | swap | place
deriving DecidableEq, Repr

/-- A job record (R93). -/
structure Job where
  number   : Nat
  kind     : JobKind
  station  : Station
  cls      : Nat
  posted   : Time
  pass     : Nat
  slot     : Option SlotIx
  backoff  : Option Time
  deferral : Nat
deriving DecidableEq, Repr

/-- The bays: A = stations 1–4, B = 5–8, C = 9–12 (manual 5.2). -/
inductive Bay where
  | A | B | C
deriving DecidableEq, Repr

/-- A bay's rotation flag and rotation pointer (R104). -/
structure BayRec where
  rotate  : Bool
  pointer : Option Station
deriving DecidableEq, Repr

/-- The hall hold level (R101). -/
inductive HoldLevel where
  | none | soft | full
deriving DecidableEq, Repr

/-- The dispatcher's settings and pointers (R101, R102, R104). -/
structure Arbiter where
  first    : Bay
  second   : Bay
  third    : Bay
  bayA     : BayRec
  bayB     : BayRec
  bayC     : BayRec
  hold     : HoldLevel
  holdMask : BitVec 12
deriving DecidableEq, Repr

/-! ### The shuttle sequencer -/

/-- The target of a move (R122). -/
inductive Target where
  | slot (k : SlotIx)
  | cradle (i : Station)
  | totePort (i : Station)
  | stand
  | outbound
  | park
deriving DecidableEq, Repr

/-- The action of a move (R122). -/
inductive Action where
  | travel | pickBar | placeBar | pickTote | placeTote | swapTote
deriving DecidableEq, Repr

/-- The move in flight, or the move of a fault: tag, target, action and deadline (R118, R122, R123). -/
structure Move where
  tag      : Nat
  target   : Target
  action   : Action
  deadline : Time
deriving DecidableEq, Repr

/-- The phases of the job sequences and of the return sub-sequences (R128, R133). -/
inductive Phase where
  | toSlot | pick | toStation | zoneWait | handoff | toStand | pickEmpty | swap | toOutbound | placeFull | place | putBack
deriving DecidableEq, Repr

/-- The return disposition (R118, R133). -/
inductive Disposition where
  | reQueue | endJob
deriving DecidableEq, Repr

/-- The current job with the sequencer's phase, return flag and disposition (present exactly while the flag is set)
and cancel-pending flag (R118), and the stand and outbound reservations it still holds in the pool (R80). -/
structure Current where
  job      : Job
  phase    : Phase
  ret      : Option Disposition
  cancel   : Bool
  standRes : Bool
  outRes   : Bool
deriving DecidableEq, Repr

/-- The current work of the sequencer (R118): a job, or a manual move (R136). -/
inductive Work where
  | job (c : Current)
  | manual
deriving DecidableEq, Repr

/-- The cause of a fault record (R155). -/
inductive FaultCause where
  | driveFault | moveTimeout
deriving DecidableEq, Repr

/-- The fault record (R155). -/
structure FaultRec where
  cause   : FaultCause
  detail  : Nat
  entered : Time
deriving DecidableEq, Repr

/-- The shuttle state with what is present in it: the current work in MOVING, ZONE_WAIT and FAULT (R99, R119), the
move in flight or of the fault (R118), the zone wait deadline while a visit is being waited at (R148), and the fault
record in FAULT (R155). -/
inductive Shuttle where
  | offline
  | idle
  | moving (w : Work) (m : Move)
  | zoneWait (c : Current) (deadline : Time)
  | fault (w : Work) (f : FaultRec) (m : Option Move)
deriving DecidableEq, Repr

/-- A tote on the shuttle (R127). -/
inductive ToteEntry where
  | empty
  | full (fill : Nat) (source : Station)
deriving DecidableEq, Repr

/-- The load record (R127). -/
inductive Load where
  | nothing
  | bar (b : Bar) (origin : SlotIx)
  | totes (e : ToteEntry)
deriving DecidableEq, Repr

/-- The drive port and the sequencer's counters (R118): drive-ready level, error count, receiver, frames awaiting
transmission, move tag counter, ping tag counter, unanswered pings, the tag of the outstanding PING and the time at
which the next PING falls due (R121). -/
structure Drive where
  ready      : Bool
  errors     : Nat
  rx         : Receiver
  tx         : List Frame
  moveTag    : Nat
  pingTag    : Nat
  unanswered : Nat
  pingOut    : Option Nat
  pingAt     : Option Time
deriving DecidableEq, Repr

/-! ### Hall parameters, attention unit and supervisor port -/

/-- The pick rule (R12). -/
inductive PickRule where
  | oldestFirst | shortestFirst
deriving DecidableEq, Repr

/-- The hall parameters, except the outbound capacity, which is a pool figure (R20, R49, R51, R137, R140, R195). -/
structure Params where
  pickRule       : PickRule
  lengthTol      : Nat
  advanceTol     : Nat
  jobTime        : Nat
  linkTimeout    : Nat
  resHold        : Nat
  travelTimeout  : Nat
  handlingTimeout : Nat
  barHandoff     : Nat
  toteHandoff    : Nat
  zoneWait       : Nat
  zoneBackoff    : Nat
deriving DecidableEq, Repr

/-- The twelve attention causes (R171). -/
inductive Cause where
  | driveFault | moveTimeout | zoneTimeout | stockOut | outboundFull | standEmpty | linkLost | feedDrift | overfill
  | lengthMismatch | accountInexact | frameErrors
deriving DecidableEq, Repr

/-- The scope of an attention record (R172). -/
inductive Scope where
  | hall
  | station (i : Station)
deriving DecidableEq, Repr

/-- An attention record (R172). The reported mark has meaning for a condition; it is clear in an event record. -/
structure AttRec where
  cause    : Cause
  scope    : Scope
  detail   : Nat
  count    : Nat
  last     : Time
  reported : Bool
deriving DecidableEq, Repr

/-- The hall mode (R196). -/
inductive Mode where
  | commission | production
deriving DecidableEq, Repr

/-- The tables of the table cursor (R194). -/
inductive TableId where
  | stock | station | queue | attention
deriving DecidableEq, Repr

/-- An answer frame in the answer buffer: TAG, STATUS and payload (R191, R198). -/
structure Answer where
  tag     : Byte
  status  : Byte
  payload : List Byte
deriving DecidableEq, Repr

/-- The supervisor port: hall mode, table cursor, the answer buffer, and the bytes MISO sent in the
last transaction, one for each byte on MOSI (R191, R194, R196). -/
structure Supervisor where
  mode        : Mode
  cursorTable : TableId
  cursorIndex : Nat
  answer      : Option Answer
  miso        : List Byte
deriving DecidableEq, Repr

/-! ### The whole device -/

/-- The device. `dispatchDue` and `draws` are the model's own: whether the event being applied has given rise to a
dispatch evaluation (R106; false between commands) and how many free values have been drawn. `pending` is the queue of
commands waiting, first in, first out. -/
structure State where
  clock       : Time
  slots       : Vector Slot 64
  arrival     : Nat
  tagCounter  : Nat
  stations    : Vector StationRec 12
  pool        : Pool
  queue       : List Job
  jobCounter  : Nat
  arbiter     : Arbiter
  shuttle     : Shuttle
  load        : Load
  drive       : Drive
  params      : Params
  attention   : List AttRec
  enable      : BitVec 12
  supervisor  : Supervisor
  dispatchDue : Bool
  draws       : Nat
  pending     : List Instr
deriving DecidableEq, Repr

/-- A station record after a power-on reset (R68, R139, R154, R190). -/
def StationRec.reset : StationRec where
  present := false
  link := .detached
  lastHeard := none
  spindle := .unset
  ring := []
  lastPart := none
  drift := 0
  driftFlag := false
  cradle := none
  tote := .noTote
  totalParts := 0
  totalRemnant := 0
  barsConsumed := 0
  travel := 600
  zone := .closed
  handoff := none
  errors := 0
  rx := .hunt
  tx := []

/-- The tote pool after a power-on reset (R92). -/
def Pool.reset : Pool := ⟨0, 0, 0, 0, 0, 8⟩

/-- The dispatcher's settings after a power-on reset: bay order A>B>C, flags clear, pointers absent, no hold (R116). -/
def Arbiter.reset : Arbiter where
  first := .A
  second := .B
  third := .C
  bayA := ⟨false, none⟩
  bayB := ⟨false, none⟩
  bayC := ⟨false, none⟩
  hold := .none
  holdMask := 0

/-- The drive port and the sequencer's counters after a power-on reset (R138). The level of DRV_RDY is the outside's;
the model takes it low (notes/assumptions/5.md), and then no PING falls due (R121). -/
def Drive.reset : Drive where
  ready := false
  errors := 0
  rx := .hunt
  tx := []
  moveTag := 0
  pingTag := 0
  unanswered := 0
  pingOut := none
  pingAt := none

/-- The hall parameters at their defaults (R195). -/
def Params.reset : Params where
  pickRule := .oldestFirst
  lengthTol := 500
  advanceTol := 20
  jobTime := 900
  linkTimeout := 50
  resHold := 3000
  travelTimeout := 900
  handlingTimeout := 300
  barHandoff := 80
  toteHandoff := 120
  zoneWait := 300
  zoneBackoff := 600

/-- The supervisor port after a power-on reset: COMMISSION, cursor at STOCK index 1, no answer (R191, R194, R196). -/
def Supervisor.reset : Supervisor where
  mode := .commission
  cursorTable := .stock
  cursorIndex := 1
  answer := none
  miso := []

/-- The machine right after a power-on reset with DRV_RDY low: every slot EMPTY (R18), every station at R68, the queue
empty (R116), the shuttle OFFLINE with load NONE (R138), the attention set empty with all twelve causes enabled (R181),
the hall clock 0 (manual 5.3) and no command waiting. -/
def State.reset : State where
  clock := 0
  slots := Vector.replicate 64 .empty
  arrival := 0
  tagCounter := 0
  stations := Vector.replicate 12 StationRec.reset
  pool := Pool.reset
  queue := []
  jobCounter := 0
  arbiter := Arbiter.reset
  shuttle := .offline
  load := .nothing
  drive := Drive.reset
  params := Params.reset
  attention := []
  enable := 0xFFF#12
  supervisor := Supervisor.reset
  dispatchDue := false
  draws := 0
  pending := []

end Sys2Proof.Machine
end

