-- ==== Sys2Proof/Machine/Operands.lean ====
section
/-! DEFINITION. The operand forms: numbering, payload fields of a supervisor command, derived figures of a record, the
codes of R198, and the frames and notices the device sends, each built from R198's layout. -/

namespace Sys2Proof

/-! ### Payload fields of a supervisor command (R198) -/

/-- The one-byte payload field at offset `k`. -/
def Write.u8 (w : Write) (k : Nat) : Nat := (w.bytes.getD k 0).toNat

/-- The two-byte payload field at offset `k`. -/
def Write.u16 (w : Write) (k : Nat) : Nat := (wire16 (w.bytes.getD k 0) (w.bytes.getD (k + 1) 0)).toNat

/-- The four-byte payload field at offset `k`. -/
def Write.u32 (w : Write) (k : Nat) : Nat :=
  (wire32 (w.bytes.getD k 0) (w.bytes.getD (k + 1) 0) (w.bytes.getD (k + 2) 0) (w.bytes.getD (k + 3) 0)).toNat

/-- The two-byte mask field at offset `k`. -/
def Write.mask16 (w : Write) (k : Nat) : BitVec 16 := wire16 (w.bytes.getD k 0) (w.bytes.getD (k + 1) 0)

/-- The LEN check of R191 and R192: LEN is one the command permits, and that many payload bytes arrived. -/
def Write.lenOk (w : Write) (permitted : List Nat) : Bool :=
  permitted.contains w.len.toNat && decide (w.len.toNat ≤ w.bytes.length)

end Sys2Proof

namespace Sys2Proof.Machine

/-! ### Numbering and saturation -/

/-- The station number 1..12 (manual 5.2). -/
def stationNum (i : Station) : Nat := i.val + 1

/-- The slot number 1..64 (manual 5.2). -/
def slotNum (k : SlotIx) : Nat := k.val + 1

/-- The station a number names; `none` outside 1..12. -/
def stationOfNum (n : Nat) : Option Station :=
  if h : 1 ≤ n ∧ n ≤ 12 then some ⟨n - 1, by omega⟩ else none

/-- The slot a number names; `none` outside 1..64. -/
def slotOfNum (n : Nat) : Option SlotIx :=
  if h : 1 ≤ n ∧ n ≤ 64 then some ⟨n - 1, by omega⟩ else none

/-- The stations in ascending number. -/
def allStations : List Station := [0, 1, 2, 3, 4, 5, 6, 7, 8, 9, 10, 11]

/-- The slots in ascending number. -/
def allSlots : List SlotIx := (List.range 64).map (Fin.ofNat 64)

/-- A detail held at 65,535 (R171). -/
def sat16 (n : Nat) : Nat := min n 65535

/-- A 32-bit saturating count (R2, R67). -/
def sat32 (n : Nat) : Nat := min n 4294967295

/-- The value of a tag counter after its next advance: 1..255, 255 followed by 1 (R94, R121, R122). -/
def nextTag (n : Nat) : Nat := if n = 255 then 1 else n + 1

/-! ### Hall clock -/

/-- The hall clock `n` ds after `t`. -/
def timeAfter (t : Time) (n : Nat) : Time := t + BitVec.ofNat 32 n

/-- The ds from `t` to `now`, modulo 2³² (R35, R49, R51). -/
def elapsed (now t : Time) : Nat := (now - t).toNat

/-- The hall clock has come to `deadline`, compared modulo 2³² (R103, R123, R146, R148; notes/assumptions/21.md). -/
def reached (now deadline : Time) : Bool := decide (elapsed now deadline < 2147483648)

/-- The ds from `now` left to `deadline`; 0 once it is reached. -/
def timeLeft (now deadline : Time) : Nat := if reached now deadline then 0 else elapsed deadline now

/-! ### Derived figures -/

/-- The pitch P = L + W (R19). -/
def Setup.pitch (u : Setup) : Nat := u.partLen + u.cutOff

/-- The qualifying bound F + M_r + P (R11). -/
def Setup.bound (u : Setup) : Nat := u.facing + u.remnant + u.pitch

/-- The name of the bar state. -/
def Spindle.barState : Spindle → BarState
  | .unset => .unset
  | .noBar _ => .noBar
  | .starved _ => .starved
  | .running _ _ => .running
  | .low _ _ => .low
  | .ending _ _ => .ending

/-- The setup, present in every bar state but UNSET (R46). -/
def Spindle.setup? : Spindle → Option Setup
  | .unset => none
  | .noBar u | .starved u | .running u _ | .low u _ | .ending u _ => some u

/-- The account, present in RUNNING, LOW and ENDING (R21). -/
def Spindle.account? : Spindle → Option Account
  | .running _ a | .low _ a | .ending _ a => some a
  | .unset | .noBar _ | .starved _ => none

/-- The same bar state with the setup replaced; in UNSET there is none to replace. -/
def Spindle.withSetup (u : Setup) : Spindle → Spindle
  | .unset => .unset
  | .noBar _ => .noBar u
  | .starved _ => .starved u
  | .running _ a => .running u a
  | .low _ a => .low u a
  | .ending _ a => .ending u a

/-- The same bar state with the account replaced; without an account there is none to replace. -/
def Spindle.withAccount (a : Account) : Spindle → Spindle
  | .unset => .unset
  | .noBar u => .noBar u
  | .starved u => .starved u
  | .running u _ => .running u a
  | .low u _ => .low u a
  | .ending u _ => .ending u a

/-- The fill count of the tote at a station, 0 without one (R72). -/
def Tote.fill : Tote → Nat
  | .noTote => 0
  | .filling n | .due n | .full n => n

/-- The same tote state with another fill count. -/
def Tote.withFill (n : Nat) : Tote → Tote
  | .noTote => .noTote
  | .filling _ => .filling n
  | .due _ => .due n
  | .full _ => .full n

/-- The link is LOST. -/
def Link.isLost : Link → Bool
  | .lost _ _ => true
  | _ => false

/-- The average cycle time C_avg (R36); 0 in UNSET (R188). -/
def StationRec.cAvg (r : StationRec) : Nat :=
  match r.spindle.setup? with
  | none => 0
  | some u =>
    match r.ring with
    | [a, b, c, d] => (a + b + c + d + 2) / 4
    | _ => u.cycle

/-- The parts left N that `rem` yields under a setup (R22). -/
def partsLeftOf (u : Setup) (rem : Nat) : Nat :=
  if u.remnant + u.pitch ≤ rem then (rem - u.remnant) / u.pitch else 0

/-- The empties free for a new job: S_e − S_r (R70). -/
def Pool.free (p : Pool) : Nat := p.empties - p.reserved

/-- The outbound lane has no free place: O_f + O_r is at least O_c (R87, R100). -/
def Pool.laneFull (p : Pool) : Bool := decide (p.outCap ≤ p.outFull + p.outRes)

/-- The bay of a station (manual 5.2). -/
def bayOf (i : Station) : Bay := if i.val < 4 then .A else if i.val < 8 then .B else .C

/-- The record of a bay. -/
def Arbiter.bay (a : Arbiter) : Bay → BayRec
  | .A => a.bayA
  | .B => a.bayB
  | .C => a.bayC

/-- A bay's rotation pointer set to a station (R104, R107). -/
def Arbiter.setPointer (a : Arbiter) (b : Bay) (i : Station) : Arbiter :=
  match b with
  | .A => { a with bayA := { a.bayA with pointer := some i } }
  | .B => { a with bayB := { a.bayB with pointer := some i } }
  | .C => { a with bayC := { a.bayC with pointer := some i } }

/-- A station is in the hold mask (R102). -/
def Arbiter.held (a : Arbiter) (i : Station) : Bool := a.holdMask.getLsbD i.val

/-- The job is a BAR job. -/
def Job.isBar (j : Job) : Bool := decide (j.kind = .bar)

/-- The job is a tote job, TOTE_SWAP or TOTE_PLACE. -/
def Job.isTote (j : Job) : Bool := !j.isBar

/-- A visit of the current job is in progress: its phase is ZONE_WAIT, HANDOFF, SWAP or PLACE with the return flag
clear (R139). -/
def Current.visiting (c : Current) : Bool :=
  c.ret.isNone && (decide (c.phase = .zoneWait) || decide (c.phase = .handoff) || decide (c.phase = .swap) ||
    decide (c.phase = .place))

/-! ### Codes of R198 -/

/-- The code of a section: 1 ROUND, 2 HEX, 3 SQUARE (R184). -/
def Shape.code : Shape → Nat
  | .round => 1
  | .hex => 2
  | .square => 3

/-- The section a code names. -/
def shapeOfCode (n : Nat) : Option Shape :=
  match n with
  | 1 => some .round
  | 2 => some .hex
  | 3 => some .square
  | _ => none

def BarState.code : BarState → Nat
  | .unset => 0
  | .noBar => 1
  | .running => 2
  | .low => 3
  | .ending => 4
  | .starved => 5

def Tote.code : Tote → Nat
  | .noTote => 0
  | .filling _ => 1
  | .due _ => 2
  | .full _ => 3

def Zone.code : Zone → Nat
  | .closed => 0
  | .requested => 1
  | .opened _ => 2
  | .inUse => 3

def JobKind.code : JobKind → Nat
  | .bar => 1
  | .swap => 2
  | .place => 3

def Target.kindCode : Target → Nat
  | .slot _ => 1
  | .cradle _ => 2
  | .totePort _ => 3
  | .stand => 4
  | .outbound => 5
  | .park => 6

def Target.number : Target → Nat
  | .slot k => slotNum k
  | .cradle i | .totePort i => stationNum i
  | .stand | .outbound | .park => 0

/-- The target that a kind and a number name, coded as in MOVE; `none` for a kind outside 1..6, a number outside the
kind's range, or a number other than 0 for a kind that has none (R136, R198; notes/assumptions/12.md). -/
def targetOfCode (kind number : Nat) : Option Target :=
  match kind with
  | 1 => (slotOfNum number).map .slot
  | 2 => (stationOfNum number).map .cradle
  | 3 => (stationOfNum number).map .totePort
  | 4 => if number = 0 then some .stand else none
  | 5 => if number = 0 then some .outbound else none
  | 6 => if number = 0 then some .park else none
  | _ => none

def Action.code : Action → Nat
  | .travel => 1
  | .pickBar => 2
  | .placeBar => 3
  | .pickTote => 4
  | .placeTote => 5
  | .swapTote => 6

def Phase.code : Phase → Nat
  | .toSlot => 1
  | .pick => 2
  | .toStation => 3
  | .zoneWait => 4
  | .handoff => 5
  | .toStand => 6
  | .pickEmpty => 7
  | .swap => 8
  | .toOutbound => 9
  | .placeFull => 10
  | .place => 11
  | .putBack => 12

def Bay.code : Bay → Nat
  | .A => 1
  | .B => 2
  | .C => 3

/-- The bay a code names (R198). -/
def bayOfCode (n : Nat) : Option Bay :=
  match n with
  | 1 => some .A
  | 2 => some .B
  | 3 => some .C
  | _ => none

def HoldLevel.code : HoldLevel → Nat
  | .none => 0
  | .soft => 1
  | .full => 2

/-- The hall hold level a code names (R198). -/
def holdOfCode (n : Nat) : Option HoldLevel :=
  match n with
  | 0 => some .none
  | 1 => some .soft
  | 2 => some .full
  | _ => none

def Mode.code : Mode → Nat
  | .commission => 1
  | .production => 2

def TableId.code : TableId → Nat
  | .stock => 1
  | .station => 2
  | .queue => 3
  | .attention => 4

/-- The table a code names (R198). -/
def tableOfCode (n : Nat) : Option TableId :=
  match n with
  | 1 => some .stock
  | 2 => some .station
  | 3 => some .queue
  | 4 => some .attention
  | _ => none

/-- The refusal reasons of a station port (R186, R198). -/
inductive StationReason where
  | wrongState | range | unfeasible | noCradleBar | late | unknownType
deriving DecidableEq, Repr

def StationReason.code : StationReason → Nat
  | .wrongState => 1
  | .range => 2
  | .unfeasible => 3
  | .noCradleBar => 4
  | .late => 5
  | .unknownType => 6

/-- The refusal reasons of the supervisor port (R198). -/
inductive Reason where
  | range | slotBusy | slotEmpty | wrongState | wrongMode | busy | noJob | loaded | notReady | noEmpty | badMask
  | notPresent | unknownCmd | length
deriving DecidableEq, Repr

def Reason.code : Reason → Nat
  | .range => 1
  | .slotBusy => 2
  | .slotEmpty => 3
  | .wrongState => 4
  | .wrongMode => 5
  | .busy => 6
  | .noJob => 7
  | .loaded => 8
  | .notReady => 9
  | .noEmpty => 10
  | .badMask => 11
  | .notPresent => 12
  | .unknownCmd => 13
  | .length => 14

/-! ### Answers and notices to a station (R186, R187, R198) -/

/-- ACK of a request TYPE. -/
def Frame.ack (type : Byte) : Frame := ⟨0x40#8, [type]⟩

/-- REFUSED with the request TYPE, a reason and a field index. -/
def Frame.refused (type : Byte) (reason : StationReason) (field : Nat) : Frame :=
  ⟨0x41#8, [type, nat8 reason.code, nat8 field]⟩

def Frame.barOnWay (job : Nat) (eta tag : Nat) : Frame :=
  ⟨0x60#8, [nat8 job, nat8 JobKind.bar.code] ++ nat16 eta ++ nat16 tag⟩

def Frame.toteOnWay (job : Nat) (kind : JobKind) (eta : Nat) : Frame :=
  ⟨0x61#8, [nat8 job, nat8 kind.code] ++ nat16 eta⟩

def Frame.cradleFilled (tag length : Nat) : Frame := ⟨0x62#8, nat16 tag ++ nat32 length⟩

/-- TOTE_HOLD with reason FULL. -/
def Frame.toteHoldFull : Frame := ⟨0x63#8, [1#8]⟩

/-- TOTE_HOLD with reason NO_TOTE. -/
def Frame.toteHoldNoTote : Frame := ⟨0x63#8, [2#8]⟩

def Frame.toteRelease : Frame := ⟨0x64#8, []⟩

def Frame.zoneRequest (job : Nat) (kind : JobKind) (h tag : Nat) : Frame :=
  ⟨0x65#8, [nat8 job, nat8 kind.code] ++ nat16 h ++ nat16 tag⟩

def Frame.zoneDecline (job h window deferral : Nat) : Frame :=
  ⟨0x66#8, [nat8 job] ++ nat16 h ++ nat16 window ++ [nat8 deferral]⟩

/-- ZONE_RELEASED with outcome DONE. -/
def Frame.zoneReleasedDone (job : Nat) : Frame := ⟨0x67#8, [nat8 job, 1#8]⟩

/-- ZONE_RELEASED with outcome WITHDRAWN. -/
def Frame.zoneReleasedWithdrawn (job : Nat) : Frame := ⟨0x67#8, [nat8 job, 2#8]⟩

/-! ### Frames to the drive (R183, R198) -/

def Frame.move (m : Move) : Frame :=
  ⟨0x20#8, [nat8 m.tag, nat8 m.target.kindCode, nat8 m.target.number, nat8 m.action.code]⟩

def Frame.ping (tag : Nat) : Frame := ⟨0x23#8, [nat8 tag]⟩

/-- The bytes of a frame on the wire (R182). -/
def Frame.bytes (f : Frame) : List Byte := frameBytes f.type f.payload

/-! ### Answers of the supervisor port (R191, R198) -/

/-- The bytes of an answer frame: TAG, STATUS, LEN (two bytes), PAYLOAD. -/
def Answer.bytes (a : Answer) : List Byte := [a.tag, a.status] ++ nat16 a.payload.length ++ a.payload

end Sys2Proof.Machine
end

