-- ==== Sys2Proof/Machine/Ops.lean ====
section
/-! DEFINITION. The shared operations over the state: reading and writing a record, lines to stations and drive, finding
jobs, moves and the shuttle's rest states, drawing a free value, and the answer buffer. -/

namespace Sys2Proof.Machine

/-! ### Reading and writing records -/

/-- A slot record. -/
def State.slot (s : State) (k : SlotIx) : Slot := s.slots[k.val]'k.isLt

/-- One slot record replaced. -/
def State.setSlot (s : State) (k : SlotIx) (v : Slot) : State := { s with slots := s.slots.set k.val v k.isLt }

/-- A station record. -/
def State.station (s : State) (i : Station) : StationRec := s.stations[i.val]'i.isLt

/-- One station record replaced. -/
def State.setStation (s : State) (i : Station) (r : StationRec) : State :=
  { s with stations := s.stations.set i.val r i.isLt }

/-- One station record changed by a function of it. -/
def State.modStation (s : State) (i : Station) (f : StationRec → StationRec) : State := s.setStation i (f (s.station i))

/-- The queue replaced. -/
def State.setQueue (s : State) (q : List Job) : State := { s with queue := q }

/-- The shuttle state replaced. -/
def State.setShuttle (s : State) (sh : Shuttle) : State := { s with shuttle := sh }

/-- The load record replaced. -/
def State.setLoad (s : State) (l : Load) : State := { s with load := l }

/-- The drive port replaced. -/
def State.setDrive (s : State) (d : Drive) : State := { s with drive := d }

/-- The pool figures replaced, with nothing informed or tested. -/
def State.setPoolFigures (s : State) (p : Pool) : State := { s with pool := p }

/-- The hall parameters replaced. -/
def State.setParams (s : State) (p : Params) : State := { s with params := p }

/-- The dispatcher's settings replaced. -/
def State.setArbiter (s : State) (a : Arbiter) : State := { s with arbiter := a }

/-- The attention set replaced. -/
def State.setAttention (s : State) (l : List AttRec) : State := { s with attention := l }

/-- The supervisor port replaced. -/
def State.setSupervisor (s : State) (p : Supervisor) : State := { s with supervisor := p }

/-- The dispatcher is informed of an event of R106; the evaluation is made when the event has been applied whole. -/
def State.informDispatcher (s : State) : State := { s with dispatchDue := true }

/-- A free byte (Config.freeByte) and the state with one more value drawn. -/
def State.drawByte (s : State) : State × Byte := ({ s with draws := s.draws + 1 }, Config.freeByte s.draws)

/-! ### The order of simultaneous expiries -/

/-- A member put at a place of a list, at its end when the list is shorter. -/
def insertAt {α : Type} (c : α) : Nat → List α → List α
  | 0, cs => c :: cs
  | _ + 1, [] => [c]
  | k + 1, x :: cs => x :: insertAt c k cs

/-- Expiries put in an order that the manual leaves open, from the free values numbered `draws` on: one alone has no
order to choose, and draws none (notes/assumptions/2.md). -/
def freelyOrdered {α : Type} (draws : Nat) : List α → Nat × List α
  | [] => (draws, [])
  | c :: cs =>
    match freelyOrdered draws cs with
    | (n, []) => (n, [c])
    | (n, x :: xs) => (n + 1, insertAt c (Config.freeOrder n % (xs.length + 2)) (x :: xs))

/-! ### Lines -/

/-- A frame placed on a station's line behind those awaiting transmission (R182). -/
def State.transmit (s : State) (i : Station) (f : Frame) : State :=
  s.modStation i fun r => { r with tx := r.tx ++ [f] }

/-- A notice to a station, sent in every link state while its present flag is set (R187). -/
def State.notify (s : State) (i : Station) (f : Frame) : State :=
  if (s.station i).present then s.transmit i f else s

/-- A frame placed on the drive's line. -/
def State.transmitDrive (s : State) (f : Frame) : State := s.setDrive { s.drive with tx := s.drive.tx ++ [f] }

/-! ### The answer buffer (R191) -/

/-- The answer placed in the buffer: TAG echoed, ANS_RDY high, and MISO having sent FFh throughout the write
transaction (R191). -/
def State.answer (s : State) (w : Write) (status : Byte) (payload : List Byte) : State :=
  s.setSupervisor { s.supervisor with
    answer := some ⟨w.tag, status, payload⟩
    miso := List.replicate (4 + w.bytes.length) 0xFF#8 }

/-- An OK answer. -/
def State.ok (s : State) (w : Write) (payload : List Byte) : State := s.answer w 0x00#8 payload

/-- A DATA answer. -/
def State.data (s : State) (w : Write) (payload : List Byte) : State := s.answer w 0x01#8 payload

/-- A REFUSED answer: a reason and a field index; nothing else changes (R192). -/
def State.refuse (s : State) (w : Write) (reason : Reason) (field : Nat) : State :=
  s.answer w 0x02#8 [nat8 reason.code, nat8 field]

/-- The level of ANS_RDY: high while an answer waits (R191). -/
def State.ansRdy (s : State) : Bool := s.supervisor.answer.isSome

/-! ### Jobs -/

/-- The current job, with the sequencer's state of it (R99, R126). -/
def State.current? (s : State) : Option Current :=
  match s.shuttle with
  | .moving (.job c) _ => some c
  | .zoneWait c _ => some c
  | .fault (.job c) _ _ => some c
  | _ => none

/-- The current job's record changed; nothing without a current job. -/
def State.modCurrent (s : State) (f : Job → Job) : State :=
  match s.shuttle with
  | .moving (.job c) m => s.setShuttle (.moving (.job { c with job := f c.job }) m)
  | .zoneWait c d => s.setShuttle (.zoneWait { c with job := f c.job } d)
  | .fault (.job c) r m => s.setShuttle (.fault (.job { c with job := f c.job }) r m)
  | _ => s

/-- The queued job with a number. -/
def State.queuedJob (s : State) (n : Nat) : Option Job := s.queue.find? fun j => decide (j.number = n)

/-- The queued record of a number changed. -/
def State.modQueued (s : State) (n : Nat) (f : Job → Job) : State :=
  s.setQueue (s.queue.map fun j => if j.number = n then f j else j)

/-- The job is station `i`'s BAR job, or its tote job. -/
def jobIs (bar : Bool) (i : Station) (j : Job) : Bool := decide (j.station = i) && j.isBar == bar

/-- Station `i`'s queued BAR job or tote job. -/
def State.queuedOf (s : State) (bar : Bool) (i : Station) : Option Job := s.queue.find? (jobIs bar i)

/-- Station `i`'s current BAR job or tote job. -/
def State.currentOf (s : State) (bar : Bool) (i : Station) : Option Job :=
  match s.current? with
  | some c => if jobIs bar i c.job then some c.job else none
  | none => none

/-- Station `i` has a BAR job, or a tote job, queued or current. -/
def State.hasJob (s : State) (bar : Bool) (i : Station) : Bool :=
  (s.queuedOf bar i).isSome || (s.currentOf bar i).isSome

/-- The work of the shuttle is a job; JOB_CANCEL, MODE and STATION_PARAM ask for it. -/
def State.jobCurrent (s : State) : Bool := s.current?.isSome

/-- A job number is in use: queued or current (R94). -/
def State.numberInUse (s : State) (n : Nat) : Bool :=
  s.queue.any (fun j => decide (j.number = n)) ||
    match s.current? with
    | some c => decide (c.job.number = n)
    | none => false

/-! ### Rest states of the shuttle (R119, R121) -/

/-- The shuttle becomes IDLE: an event at which the dispatcher evaluates (R106, R119), with the first PING due 10 ds
from the entry and no PING outstanding (R121). -/
def State.enterIdle (s : State) : State :=
  ((s.setShuttle .idle).setDrive { s.drive with pingOut := none, pingAt := some (timeAfter s.clock 10) }).informDispatcher

/-- The shuttle becomes OFFLINE; PINGs go on from the entry only while DRV_RDY is high (R121). -/
def State.enterOffline (s : State) : State :=
  (s.setShuttle .offline).setDrive { s.drive with
    pingOut := none
    pingAt := if s.drive.ready then some (timeAfter s.clock 10) else none }

/-- The shuttle becomes IDLE if the drive-ready level is high, OFFLINE if it is low (R138, R160). -/
def State.enterRest (s : State) : State := if s.drive.ready then s.enterIdle else s.enterOffline

/-- PINGs are sent in IDLE, and in OFFLINE with DRV_RDY high (R121). -/
def State.pinging (s : State) : Bool :=
  match s.shuttle with
  | .idle => true
  | .offline => s.drive.ready
  | _ => false

/-! ### Moves (R122, R123) -/

/-- The timeout of a move, read at its issue (R123): the travel timeout, the handling timeout, or twice the H held in
the zone record of the station. -/
def State.moveTimeout (s : State) (target : Target) (action : Action) : Nat :=
  match action, target with
  | .travel, _ => s.params.travelTimeout
  | _, .cradle i => 2 * ((s.station i).handoff.getD 0)
  | _, .totePort i => 2 * ((s.station i).handoff.getD 0)
  | _, _ => s.params.handlingTimeout

/-- A move is issued for a work: a fresh tag, the deadline of R123, the order sent to the drive and the shuttle in
MOVING; a PING still unanswered is abandoned (R121, R122). -/
def State.issueMove (s : State) (w : Work) (target : Target) (action : Action) : State :=
  let tag := nextTag s.drive.moveTag
  let m : Move := ⟨tag, target, action, timeAfter s.clock (s.moveTimeout target action)⟩
  (s.setShuttle (.moving w m)).setDrive { s.drive with
    moveTag := tag
    tx := s.drive.tx ++ [Frame.move m]
    pingOut := none
    pingAt := none }

end Sys2Proof.Machine
end

