-- ==== Sys2Proof/Machine/Flags.lean ====
section
/-! DEFINITION. The attention unit (R171 to R181): the set in read order, raising and removing records, the nATTN line,
the port error counts (R175), and the pool's two conditions (R87). -/

namespace Sys2Proof.Machine

/-! ### Causes and read order -/

/-- The priority of a cause, which is also its code (R171, R198). -/
def Cause.priority : Cause → Nat
  | .driveFault => 1
  | .moveTimeout => 2
  | .zoneTimeout => 3
  | .stockOut => 4
  | .outboundFull => 5
  | .standEmpty => 6
  | .linkLost => 7
  | .feedDrift => 8
  | .overfill => 9
  | .lengthMismatch => 10
  | .accountInexact => 11
  | .frameErrors => 12

/-- The cause is a condition, not an event (R171). -/
def Cause.isCondition : Cause → Bool
  | .stockOut | .outboundFull | .standEmpty | .linkLost => true
  | _ => false

/-- The code of a scope: 0 HALL, 1..12 a station (R198). -/
def Scope.num : Scope → Nat
  | .hall => 0
  | .station i => stationNum i

/-- The read order as one number: priority, then scope with HALL first (R172). -/
def AttRec.rank (r : AttRec) : Nat := r.cause.priority * 16 + r.scope.num

/-- The record is of a cause and scope. -/
def AttRec.isOf (c : Cause) (sc : Scope) (r : AttRec) : Bool := decide (r.cause = c) && decide (r.scope = sc)

/-- A record put at its place in the read order, replacing the one of its cause and scope. -/
def attInsert (r : AttRec) : List AttRec → List AttRec
  | [] => [r]
  | x :: xs =>
    if r.rank < x.rank then r :: x :: xs
    else if r.rank = x.rank then r :: xs
    else x :: attInsert r xs

/-- The pending record of a cause and scope. -/
def State.attOf (s : State) (c : Cause) (sc : Scope) : Option AttRec := s.attention.find? (AttRec.isOf c sc)

/-! ### Raising and removal (R173, R174) -/

/-- An event raised (R173): a new record with count 1, or the pending one with the new detail and time and its count
risen by one, holding at 255. -/
def State.raiseEvent (s : State) (c : Cause) (sc : Scope) (detail : Nat) : State :=
  match s.attOf c sc with
  | none => s.setAttention (attInsert ⟨c, sc, sat16 detail, 1, s.clock, false⟩ s.attention)
  | some r =>
    s.setAttention (attInsert { r with detail := sat16 detail, count := min (r.count + 1) 255, last := s.clock } s.attention)

/-- A condition found begun (R174): a new unreported record; nothing while its record stands. -/
def State.raiseCondition (s : State) (c : Cause) (sc : Scope) (detail : Nat) : State :=
  match s.attOf c sc with
  | none => s.setAttention (attInsert ⟨c, sc, sat16 detail, 1, s.clock, false⟩ s.attention)
  | some _ => s

/-- A condition that holds with a detail that may change: begun if no record stands, otherwise its detail updated and
nothing else (R87, R174). -/
def State.holdCondition (s : State) (c : Cause) (sc : Scope) (detail : Nat) : State :=
  match s.attOf c sc with
  | none => s.setAttention (attInsert ⟨c, sc, sat16 detail, 1, s.clock, false⟩ s.attention)
  | some r => s.setAttention (attInsert { r with detail := sat16 detail } s.attention)

/-- A condition ended: its record removed, reported or not (R174). -/
def State.endCondition (s : State) (c : Cause) (sc : Scope) : State :=
  s.setAttention (s.attention.filter fun r => !AttRec.isOf c sc r)

/-- A station's records removed, events and conditions alike (R64, R181). -/
def State.dropStationRecords (s : State) (i : Station) : State :=
  s.setAttention (s.attention.filter fun r => !decide (r.scope = .station i))

/-! ### Reading (R176 to R179) -/

/-- The cause is enabled in the mask: bit p − 1 for the cause of priority p (R178, R198). -/
def causeEnabled (mask : BitVec 12) (c : Cause) : Bool := mask.getLsbD (c.priority - 1)

/-- A record that ATTENTION_READ may select: enabled, and an event or an unreported condition (R176). -/
def AttRec.readable (mask : BitVec 12) (r : AttRec) : Bool :=
  causeEnabled mask r.cause && (!r.cause.isCondition || !r.reported)

/-- The level of nATTN, true for high: low while the set holds a readable record (R179). -/
def State.nAttn (s : State) : Bool := !(s.attention.any (AttRec.readable s.enable))

/-- The mark of a record: 1 EVENT, 2 UNREPORTED, 3 REPORTED (R180, R198). -/
def AttRec.mark (r : AttRec) : Nat :=
  if r.cause.isCondition then (if r.reported then 3 else 2) else 1

/-! ### Port error counts (R175) -/

/-- The error count of a port. -/
def State.portErrors (s : State) : Port → Nat
  | .station i => (s.station i).errors
  | .drive => s.drive.errors

/-- The scope of a port's FRAME_ERRORS (R171). -/
def portScope : Port → Scope
  | .station i => .station i
  | .drive => .hall

/-- One error counted at a port: the count rises by one and saturates at 255; a rise to a multiple of 16 raises
FRAME_ERRORS with the new count (R175). -/
def State.countError (s : State) (p : Port) : State :=
  let n := s.portErrors p
  if 255 ≤ n then s
  else
    let s1 :=
      match p with
      | .station i => s.modStation i fun r => { r with errors := n + 1 }
      | .drive => s.setDrive { s.drive with errors := n + 1 }
    if (n + 1) % 16 = 0 then s1.raiseEvent .frameErrors (portScope p) (n + 1) else s1

/-! ### The pool and its conditions (R87, R106) -/

/-- STAND_EMPTY and OUTBOUND_FULL tested against the queue and the pool (R87). -/
def State.testPool (s : State) : State :=
  let totes := (s.queue.filter Job.isTote).length
  let s1 :=
    if 0 < totes ∧ s.pool.free = 0 then s.holdCondition .standEmpty .hall totes
    else s.endCondition .standEmpty .hall
  if s.queue.any (fun j => decide (j.kind = .swap)) ∧ s.pool.laneFull then
    s1.holdCondition .outboundFull .hall s.pool.outFull
  else s1.endCondition .outboundFull .hall

/-- The pool figures changed. The dispatcher is informed when S_e − S_r rises from 0 or O_f + O_r falls below O_c
(R106), and the two conditions are tested (R87). -/
def State.setPool (s : State) (p : Pool) : State :=
  let freed := (decide (s.pool.free = 0) && decide (0 < p.free)) || (s.pool.laneFull && !p.laneFull)
  let s1 := s.setPoolFigures p
  (if freed then s1.informDispatcher else s1).testPool

end Sys2Proof.Machine
end

