-- ==== Sys2Proof/Machine/Queue.lean ====
section
/-! DEFINITION. The job queue: the dispatch order (R105), the block reasons (R100), job numbers (R94), leaving the
queue (R97) and joining it again by age (R98). -/

namespace Sys2Proof.Machine

/-! ### Dispatch order (R105) -/

/-- Lexicographic order of keys: the first key that differs decides. -/
def lexLt : List Nat → List Nat → Bool
  | [], _ => false
  | _ :: _, [] => false
  | x :: xs, y :: ys => decide (x < y) || (decide (x = y) && lexLt xs ys)

/-- The element with the least key; of two with the same key the one that stands earlier. -/
def firstBy {α : Type} (key : α → List Nat) : List α → Option α
  | [] => none
  | x :: xs =>
    match firstBy key xs with
    | none => some x
    | some y => if lexLt (key y) (key x) then some y else some x

/-- The place of a bay in the bay order (R104). -/
def Arbiter.bayRank (a : Arbiter) (b : Bay) : Nat :=
  if a.first = b then 0 else if a.second = b then 1 else 2

/-- The place of a station in its bay: ascending number, or with the rotation flag set and a pointer p, the stations
after p first and p last (R105). -/
def Arbiter.stationRank (a : Arbiter) (i : Station) : Nat :=
  match (a.bay (bayOf i)).rotate, (a.bay (bayOf i)).pointer with
  | true, some p => (i.val % 4 + 3 - p.val % 4) % 4
  | _, _ => i.val % 4

/-- The keys of the dispatch order before the queue position: class, bay, station within the bay, and the posted time,
where the greater age counts as the earlier (R105). -/
def State.dispatchKey (s : State) (j : Job) : List Nat :=
  [j.cls, s.arbiter.bayRank (bayOf j.station), s.arbiter.stationRank j.station, 4294967295 - elapsed s.clock j.posted]

/-- The first of some queued jobs in the dispatch order; the fifth key is the queue position, in which order the jobs
are given (R105). -/
def State.firstInOrder (s : State) (js : List Job) : Option Job := firstBy s.dispatchKey js

/-! ### Eligibility (R100) -/

/-- The block reasons in the order of R100. -/
inductive Block where
  | none | stockWait | noEmpty | outboundFull | stationLost | stationHeld | backoff | hallHold
deriving DecidableEq, Repr

/-- The code of a block reason (R198). -/
def Block.code : Block → Nat
  | .none => 0
  | .stockWait => 1
  | .noEmpty => 2
  | .outboundFull => 3
  | .stationLost => 4
  | .stationHeld => 5
  | .backoff => 6
  | .hallHold => 7

/-- The backoff time is present and the hall clock has not reached it (R100, R103). -/
def State.backoffRuns (s : State) (j : Job) : Bool :=
  match j.backoff with
  | some t => !reached s.clock t
  | none => false

/-- The hall hold blocks a class: SOFT classes 2 and 3, FULL every class (R100, R101). -/
def HoldLevel.blocks (l : HoldLevel) (cls : Nat) : Bool :=
  match l with
  | .none => false
  | .soft => decide (2 ≤ cls)
  | .full => true

/-- The block reason of a queued job, the first that applies in the order of R100. -/
def State.blockOf (s : State) (j : Job) : Block :=
  if j.isBar && j.slot.isNone then .stockWait
  else if j.isTote && decide (s.pool.free = 0) then .noEmpty
  else if decide (j.kind = .swap) && s.pool.laneFull then .outboundFull
  else if (s.station j.station).link.isLost then .stationLost
  else if s.arbiter.held j.station then .stationHeld
  else if s.backoffRuns j then .backoff
  else if s.arbiter.hold.blocks j.cls then .hallHold
  else .none

/-- A queued job that dispatch may choose (R100). -/
def State.eligible (s : State) (j : Job) : Bool := decide (s.blockOf j = .none)

/-! ### Job numbers (R94) -/

/-- The first number not in use, from a candidate on; 255 is followed by 1. With `fuel` candidates tried, the last
stands. -/
def State.searchNumber (s : State) : Nat → Nat → Nat
  | 0, n => n
  | fuel + 1, n => if s.numberInUse n then s.searchNumber fuel (nextTag n) else n

/-- The job number of the next posting (R94). -/
def State.freshNumber (s : State) : Nat := s.searchNumber 255 (nextTag s.jobCounter)

/-! ### Leaving and joining the queue (R97, R98) -/

/-- STOCK_OUT for a station holds: it has a queued BAR job without a slot and its link is not LOST (R17). -/
def State.stockOutHolds (s : State) (i : Station) : Bool :=
  s.queue.any (fun j => jobIs true i j && j.slot.isNone) && !(s.station i).link.isLost

/-- STOCK_OUT for a station re-tested when a job leaves the queue (R97): removed where it no longer holds (R17). -/
def State.testStockOut (s : State) (i : Station) : State :=
  if s.stockOutHolds i then s else s.endCondition .stockOut (.station i)

/-- A job leaves the queue; the jobs behind it move up. -/
def State.unqueue (s : State) (n : Nat) : State := s.setQueue (s.queue.filter fun j => !decide (j.number = n))

/-- The conditions re-tested after job `j` has left the queue (R97). -/
def State.testDeparture (s : State) (j : Job) : State := (s.testStockOut j.station).testPool

/-- A job put behind every queued job whose posted time is its own or earlier, compared by age (R98). -/
def insertByAge (now : Time) (j : Job) : List Job → List Job
  | [] => [j]
  | x :: xs => if elapsed now j.posted ≤ elapsed now x.posted then x :: insertByAge now j xs else j :: x :: xs

end Sys2Proof.Machine
end

