-- ==== Sys2Proof/Machine/Magazine.lean ====
section
/-! DEFINITION. The magazine: held tags and their allocation (R3, R4), qualification and selection (R11 to R13), release
of a reservation (R14), and the offer of ready stock (R16). -/

namespace Sys2Proof.Machine

/-! ### Tags (R3, R4) -/

/-- The bar record in a slot, present in READY, RESERVED and in BLOCKED with a bar (R5). -/
def Slot.bar? : Slot → Option Bar
  | .empty => none
  | .ready b => some b
  | .reserved b _ => some b
  | .out _ => none
  | .blocked b => b

/-- The owner job number, present in RESERVED and OUT (R5). -/
def Slot.owner? : Slot → Option Nat
  | .reserved _ n => some n
  | .out n => some n
  | _ => none

/-- The bar on the shuttle load. -/
def Load.bar? : Load → Option Bar
  | .bar b _ => some b
  | _ => none

/-- The tags held: in slots, on the load, in cradles and in spindle accounts (R3). -/
def State.heldTags (s : State) : List Nat :=
  (s.slots.toList.filterMap Slot.bar?).map Bar.tag ++ (s.load.bar?.toList).map Bar.tag ++
    (s.stations.toList.filterMap StationRec.cradle).map Bar.tag ++
    (s.stations.toList.filterMap fun r => r.spindle.account?).map fun a => a.bar.tag

/-- The first tag not held, from a candidate on; 65535 is followed by 1 (R4). At most 89 tags are held, so 90
candidates suffice. -/
def searchTag (held : List Nat) : Nat → Nat → Nat
  | 0, n => n
  | fuel + 1, n => if held.contains n then searchTag held fuel (if n = 65535 then 1 else n + 1) else n

/-- The tag of the next entered bar (R4). -/
def State.freshTag (s : State) : Nat :=
  searchTag s.heldTags 90 (if s.tagCounter = 65535 then 1 else s.tagCounter + 1)

/-! ### Qualification and selection (R11, R12) -/

/-- A bar suits a setup: equal stock code and length at least F + M_r + P (R11, conditions 2 and 3). -/
def Setup.accepts (u : Setup) (b : Bar) : Bool := decide (b.stock = u.stock) && decide (u.bound ≤ b.length)

/-- A bar in a READY slot qualifies for a station; none does for a station in UNSET (R11). -/
def State.qualifies (s : State) (i : Station) (b : Bar) : Bool :=
  match (s.station i).spindle.setup? with
  | some u => u.accepts b
  | none => false

/-- The bars that qualify for a station, with their slots, in slot order (R11). -/
def State.qualifying (s : State) (i : Station) : List (SlotIx × Bar) :=
  allSlots.filterMap fun k =>
    match s.slot k with
    | .ready b => if s.qualifies i b then some (k, b) else none
    | _ => none

/-- The order of the pick rule; equal arrival stamps are taken by lowest slot number (R12). -/
def PickRule.key (r : PickRule) (kb : SlotIx × Bar) : List Nat :=
  match r with
  | .oldestFirst => [kb.2.stamp, slotNum kb.1]
  | .shortestFirst => [kb.2.length, kb.2.stamp, slotNum kb.1]

/-- The slot that selection takes for a station, if any bar qualifies (R12). -/
def State.pick (s : State) (i : Station) : Option (SlotIx × Bar) := firstBy s.params.pickRule.key (s.qualifying i)

/-! ### Reservation (R13) and release (R14) -/

/-- The reservation made: the slot RESERVED to the job, the slot number in the job's slot field, STOCK_OUT removed,
and the dispatcher informed that the STOCK_WAIT block has ended (R13). -/
def State.reserve (s : State) (k : SlotIx) (b : Bar) (n : Nat) (i : Station) : State :=
  (((s.setSlot k (.reserved b n)).modQueued n fun j => { j with slot := some k }).endCondition .stockOut
    (.station i)).informDispatcher

/-- Selection for station `i`'s queued BAR job (R12, R13): not tried for a LOST station or a job that holds a slot;
a failure raises STOCK_OUT with the material of the setup (R17). -/
def State.select (s : State) (i : Station) : State :=
  match s.queuedOf true i with
  | none => s
  | some j =>
    if (s.station i).link.isLost || j.slot.isSome then s
    else
      match s.pick i with
      | some (k, b) => s.reserve k b j.number i
      | none =>
        s.raiseCondition .stockOut (.station i)
          (match (s.station i).spindle.setup? with
           | some u => u.stock.material
           | none => 0)

/-- A RESERVED slot returned to READY with its owner removed (R14); any other slot stays. -/
def State.freeSlot (s : State) (k : SlotIx) : State :=
  match s.slot k with
  | .reserved b _ => s.setSlot k (.ready b)
  | _ => s

/-! ### The offer (R16) -/

/-- A waiting BAR job other than the one excluded: queued without a slot, its station not LOST (R14, R16). -/
def State.waits (s : State) (except : Option Nat) (j : Job) : Bool :=
  j.isBar && j.slot.isNone && !(s.station j.station).link.isLost && !decide (some j.number = except)

/-- The bar of a READY slot offered to the waiting jobs in dispatch order: the first for which it qualifies takes it
(R16). The job `except`, whose reservation was released, is not offered its own bar (R14). -/
def State.offer (s : State) (k : SlotIx) (except : Option Nat) : State :=
  match s.slot k with
  | .ready b =>
    match s.firstInOrder (s.queue.filter fun j => s.waits except j && s.qualifies j.station b) with
    | some j => s.reserve k b j.number j.station
    | none => s
  | _ => s

/-- Slots offered one after another (R16). -/
def State.offerAll (s : State) (except : Option Nat) : List SlotIx → State
  | [] => s
  | k :: ks => (s.offer k except).offerAll except ks

/-- A queued job's reservation released: the slot READY, the job's slot field absent, and the bar offered to the other
waiting jobs (R14). -/
def State.releaseQueued (s : State) (j : Job) : State :=
  match j.slot with
  | none => s
  | some k => ((s.freeSlot k).modQueued j.number fun q => { q with slot := none }).offer k (some j.number)

/-- A queued job removed, by a cancel or a station restart: it leaves the queue, its reservation is released and the bar
offered to the remaining waiting jobs, and the conditions are re-tested (R97, R111, R113). -/
def State.removeQueued (s : State) (j : Job) : State :=
  let s1 := s.unqueue j.number
  let s2 :=
    match j.slot with
    | none => s1
    | some k => (s1.freeSlot k).offer k none
  s2.testDeparture j

end Sys2Proof.Machine
end

