-- ==== Sys2Proof/Machine/Dispatcher.lean ====
section
/-! DEFINITION. The dispatcher: posting a job (R95), raising its class (R96), the dispatch evaluation with ageing and
reservations (R106 to R109), and re-queueing (R98). -/

namespace Sys2Proof.Machine

/-! ### Posting and raising (R95, R96) -/

/-- The record of a job as posted (R95). -/
def State.newJob (s : State) (kind : JobKind) (cls : Nat) (i : Station) : Job where
  number := s.freshNumber
  kind := kind
  station := i
  cls := cls
  posted := s.clock
  pass := 0
  slot := none
  backoff := none
  deferral := 0

/-- A job posted at the tail of the queue with a fresh number; a BAR job tries selection at once, a tote job's joining
tests the pool conditions, and the posting informs the dispatcher (R87, R94, R95, R106). -/
def State.post (s : State) (kind : JobKind) (cls : Nat) (i : Station) : State :=
  let j := s.newJob kind cls i
  let s1 := ({ s with queue := s.queue ++ [j], jobCounter := j.number } : State).informDispatcher
  if kind = .bar then s1.select i else s1.testPool

/-- The class of station `i`'s BAR job or tote job raised, queued or current. A queued job whose class changes informs
the dispatcher; of the current job only the class shown changes (R53, R74, R96, R106). -/
def State.raiseClass (s : State) (bar : Bool) (i : Station) (cls : Nat) : State :=
  match s.queuedOf bar i with
  | some j =>
    if j.cls = cls then s else (s.modQueued j.number fun q => { q with cls := cls }).informDispatcher
  | none =>
    match s.currentOf bar i with
    | some _ => s.modCurrent fun j => { j with cls := cls }
    | none => s

/-! ### Ageing (R108) -/

/-- A passed-over job gains a pass; at 8 its class is lowered by one if it is 2 or 3, and the count returns to 0. -/
def Job.aged (j : Job) : Job :=
  if 7 ≤ j.pass then
    { j with pass := 0, cls := if j.cls = 2 ∨ j.cls = 3 then j.cls - 1 else j.cls }
  else { j with pass := j.pass + 1 }

/-- The queue aged at the dispatch of `chosen`: the other jobs that were eligible, of the chosen job's class number or
greater (R108). -/
def State.agedQueue (s : State) (chosen : Job) (q : List Job) : List Job :=
  q.map fun j => if s.eligible j ∧ chosen.cls ≤ j.cls then j.aged else j

/-! ### Dispatch (R107, R109) -/

/-- The pool with a dispatched tote job's reservations taken (R109). -/
def Pool.reserveFor (p : Pool) : JobKind → Pool
  | .bar => p
  | .place => { p with reserved := p.reserved + 1 }
  | .swap => { p with reserved := p.reserved + 1, outRes := p.outRes + 1 }

/-- The notice of a dispatch: BAR_ON_WAY with the tag of the reserved bar, or TOTE_ON_WAY, with the travel estimate as
ETA (R109). -/
def State.onWay (s : State) (j : Job) : Frame :=
  match j.kind with
  | .bar =>
    Frame.barOnWay j.number (s.station j.station).travel
      (match j.slot with
       | some k => ((s.slot k).bar?.map Bar.tag).getD 0
       | none => 0)
  | k => Frame.toteOnWay j.number k (s.station j.station).travel

/-- The sequencer's record of a dispatched job in its first phase, return flag and cancel-pending flag clear (R107,
R128). -/
def startOf (j : Job) : Current where
  job := { j with backoff := none }
  phase := if j.isBar then .toSlot else .toStand
  ret := none
  cancel := false
  standRes := j.isTote
  outRes := decide (j.kind = .swap)

/-- The dispatched job handed to the sequencer, which issues its first move: TRAVEL to the job's slot or to the stand
(R107 step 7, R128). A BAR job without a slot is never eligible, so the last case does not arise. -/
def State.startJob (s : State) (j : Job) : State :=
  match j.kind, j.slot with
  | .bar, some k => s.issueMove (.job (startOf j)) (.slot k) .travel
  | .bar, none => s
  | _, _ => s.issueMove (.job (startOf j)) .stand .travel

/-- A job dispatched in the steps of R107: it leaves the queue, the rotation pointer of its bay is set, the others are
aged by their eligibility at this evaluation, the pool reservations are taken, the conditions re-tested, the notice
sent, and the first move issued. -/
def State.dispatch (s : State) (j : Job) : State :=
  let s1 := (s.unqueue j.number).setArbiter (s.arbiter.setPointer (bayOf j.station) j.station)
  let s2 := s1.setQueue (s.agedQueue j s1.queue)
  let s3 := (s2.setPoolFigures (s2.pool.reserveFor j.kind)).testDeparture j
  (s3.notify j.station (s3.onWay j)).startJob j

/-- The dispatch evaluation: made in PRODUCTION with the shuttle IDLE, which no job being current includes; the first
eligible job in the dispatch order is dispatched, and without one nothing changes (R106, R107). -/
def State.evaluate (s : State) : State :=
  if s.supervisor.mode = .production ∧ s.shuttle = .idle then
    match s.firstInOrder (s.queue.filter s.eligible) with
    | some j => s.dispatch j
    | none => s
  else s

/-- The end of an event: if it informed the dispatcher, one evaluation is made (R106). -/
def State.settle (s : State) : State :=
  if s.dispatchDue then State.evaluate { s with dispatchDue := false } else s

/-! ### The end of the current job (R99, R132, R134, R160, R165) and re-queueing (R98) -/

/-- The reservations the current job still holds in the pool given back (R80, R99). -/
def State.releasePool (s : State) (c : Current) : State :=
  s.setPool { s.pool with
    reserved := s.pool.reserved - (if c.standRes then 1 else 0)
    outRes := s.pool.outRes - (if c.outRes then 1 else 0) }

/-- The current job's RESERVED slot: the one its slot field names, while it is RESERVED (R99). -/
def State.reservedSlotOf (s : State) (c : Current) : Option SlotIx :=
  match c.job.slot with
  | none => none
  | some k =>
    match s.slot k with
    | .reserved _ _ => some k
    | _ => none

/-- The current job ends: its pool reservations are released, its RESERVED slot returns to READY, the shuttle comes to
rest by `rest`, and the slots freed now or by the settlement before (`freed`) are offered to the waiting jobs (R14,
R80, R99, R112, R134, R165, R167). -/
def State.endCurrent (s : State) (c : Current) (freed : List SlotIx) (rest : State → State) : State :=
  let s1 := s.releasePool c
  match s1.reservedSlotOf c with
  | some k => (rest (s1.freeSlot k)).offerAll none (freed ++ [k])
  | none => (rest s1).offerAll none freed

/-- The current job re-queued: number, kind, station, class, posted time and slot kept; pass and deferral counts 0; the
backoff time now plus the zone backoff; placed by its posted time; its pool reservations released (R98, R150). -/
def State.reQueue (s : State) (c : Current) : State :=
  let j : Job := { c.job with
    pass := 0
    deferral := 0
    backoff := some (timeAfter s.clock s.params.zoneBackoff) }
  let s1 := (s.releasePool c).enterIdle
  (s1.setQueue (insertByAge s.clock j s1.queue)).testPool

end Sys2Proof.Machine
end

