-- ==== Sys2Proof/Machine/Totes.lean ====
section
/-! DEFINITION. The tote at a station: fill counting (R73), the tote that fills (R74), the exchange lead (R75), the tote
evaluation (R77, R78), a new Q and E (R79), the phase effects on totes and pool (R81 to R84), and the match test (R85). -/

namespace Sys2Proof.Machine

/-! ### Fill counting and evaluation (R73 to R79) -/

/-- The tote of a station replaced. -/
def State.setTote (s : State) (i : Station) (t : Tote) : State := s.modStation i fun r => { r with tote := t }

/-- Station `i` has a tote job, queued or current (R72). -/
def State.hasToteJob (s : State) (i : Station) : Bool := s.hasJob false i

/-- The tote fills: TOTE_HOLD with reason FULL; the tote job, queued or current, is raised to class 1, or a TOTE_SWAP of
class 1 is posted; the tote state becomes FULL (R74). -/
def State.toteFills (s : State) (i : Station) : State :=
  let s1 := s.notify i Frame.toteHoldFull
  let s2 := if s1.hasToteJob i then s1.raiseClass false i 1 else s1.post .swap 1 i
  s2.setTote i (.full (s2.station i).tote.fill)

/-- The exchange lead is reached: a TOTE_SWAP of class 3 is posted unless the station has a tote job; the tote state
becomes DUE (R75). -/
def State.exchangeLead (s : State) (i : Station) : State :=
  let s1 := if s.hasToteJob i then s else s.post .swap 3 i
  s1.setTote i (.due (s1.station i).tote.fill)

/-- One part counted into the tote of a station with capacity Q and exchange lead E; true when it is held off instead,
because the tote state is NO_TOTE or FULL (R73). -/
def State.countPart (s : State) (i : Station) (u : Setup) : State × Bool :=
  match (s.station i).tote with
  | .noTote => (s, true)
  | .full _ => (s, true)
  | .filling n =>
    let s1 := s.setTote i (.filling (n + 1))
    if n + 1 = u.capacity then (s1.toteFills i, false)
    else if u.capacity - u.exchange ≤ n + 1 then (s1.exchangeLead i, false)
    else (s1, false)
  | .due n =>
    let s1 := s.setTote i (.due (n + 1))
    if n + 1 = u.capacity then (s1.toteFills i, false) else (s1, false)

/-- `n` parts counted one at a time, with the number held off so far (R73). -/
def State.countParts (s : State) (i : Station) (u : Setup) (held : Nat) : Nat → State × Nat
  | 0 => (s, held)
  | n + 1 =>
    let p := s.countPart i u
    p.1.countParts i u (if p.2 then held + 1 else held) n

/-- A tote job posted by a tote evaluation, which a DETACHED station does not post until it attaches (R78). -/
def State.postAttached (s : State) (kind : JobKind) (i : Station) : State :=
  if (s.station i).link = .detached then s else s.post kind 1 i

/-- The tote evaluation (R77): DUE without a tote job becomes FILLING; FILLING at the exchange lead reaches it; FULL, and
NO_TOTE, without a tote job send TOTE_HOLD and post a class 1 job, which a DETACHED station does not (R78;
notes/assumptions/31.md). -/
def State.toteEvaluate (s : State) (i : Station) : State :=
  let s1 :=
    match (s.station i).tote with
    | .due n => if s.hasToteJob i then s else s.setTote i (.filling n)
    | _ => s
  let s2 :=
    match (s1.station i).tote, (s1.station i).spindle.setup? with
    | .filling n, some u => if u.capacity - u.exchange ≤ n then s1.exchangeLead i else s1
    | _, _ => s1
  let s3 :=
    match (s2.station i).tote with
    | .full _ => if s2.hasToteJob i then s2 else (s2.notify i Frame.toteHoldFull).postAttached .swap i
    | _ => s2
  match (s3.station i).tote with
  | .noTote => if s3.hasToteJob i then s3 else (s3.notify i Frame.toteHoldNoTote).postAttached .place i
  | _ => s3

/-- The tote attach evaluation (R78): TOTE_HOLD to a FULL or NO_TOTE station, then a tote evaluation. -/
def State.toteAttach (s : State) (i : Station) : State :=
  (match (s.station i).tote with
   | .full _ => s.notify i Frame.toteHoldFull
   | .noTote => s.notify i Frame.toteHoldNoTote
   | _ => s).toteEvaluate i

/-- The parts of a taken PART_OFF handed to the tote: counted, OVERFILL raised once with the number held off, and the
tote evaluated (R73, R76, R78). -/
def State.fillTote (s : State) (i : Station) (u : Setup) (parts : Nat) : State :=
  let p := s.countParts i u 0 parts
  (if 0 < p.2 then p.1.raiseEvent .overfill (.station i) p.2 else p.1).toteEvaluate i

/-- A new Q and E taken in (R79): a fill count above Q is cut to Q with OVERFILL, a FILLING or DUE tote at Q fills, and
the tote is evaluated. -/
def State.newCapacity (s : State) (i : Station) (u : Setup) : State :=
  let n := (s.station i).tote.fill
  let s1 :=
    if u.capacity < n then
      (s.raiseEvent .overfill (.station i) (n - u.capacity)).setTote i ((s.station i).tote.withFill u.capacity)
    else s
  let s2 :=
    match (s1.station i).tote with
    | .filling m => if m = u.capacity then s1.toteFills i else s1
    | .due m => if m = u.capacity then s1.toteFills i else s1
    | _ => s1
  s2.toteEvaluate i

/-! ### Phase effects (R81 to R84) and the match test (R85) -/

/-- PICK_EMPTY done: S_e −1 and S_r −1, and an EMPTY entry on the load (R81). -/
def State.pickEmpty (s : State) : State :=
  (s.setLoad (.totes .empty)).setPool { s.pool with empties := s.pool.empties - 1, reserved := s.pool.reserved - 1 }

/-- SWAP done: the station's tote becomes the FULL entry with its fill count and source, the fill count becomes 0,
TOTE_RELEASE is sent if the tote was FULL, and the tote state becomes FILLING (R82). -/
def State.swapTote (s : State) (i : Station) : State :=
  let t := (s.station i).tote
  let s1 := s.setLoad (.totes (.full t.fill i))
  let s2 :=
    match t with
    | .full _ => s1.notify i Frame.toteRelease
    | _ => s1
  s2.setTote i (.filling 0)

/-- PLACE at a station done: the EMPTY entry becomes the station's tote, fill count 0, TOTE_RELEASE, FILLING (R83). -/
def State.placeTote (s : State) (i : Station) : State :=
  ((s.setLoad .nothing).notify i Frame.toteRelease).setTote i (.filling 0)

/-- PLACE_FULL done: the FULL entry leaves the load, O_f +1 and O_r −1 (R84). -/
def State.placeFull (s : State) : State :=
  (s.setLoad .nothing).setPool { s.pool with outFull := s.pool.outFull + 1, outRes := s.pool.outRes - 1 }

/-- PLACE at the stand done: the EMPTY entry leaves the load and S_e +1 (R81, R134). -/
def State.placeStand (s : State) : State :=
  (s.setLoad .nothing).setPool { s.pool with empties := s.pool.empties + 1 }

/-- A tote job matches its station: the link is not DETACHED and the tote state fits the kind (R85). -/
def State.toteMatches (s : State) (j : Job) : Bool :=
  !decide ((s.station j.station).link = .detached) &&
    match j.kind, (s.station j.station).tote with
    | .swap, .due _ => true
    | .swap, .full _ => true
    | .place, .noTote => true
    | _, _ => false

end Sys2Proof.Machine
end

