-- ==== Sys2Proof/Machine/Accounts.lean ====
section
/-! DEFINITION. The spindle account: opening (R23, R24), taking parts off (R26 to R33), cycle time (R35), the delivery
estimate and the lead evaluation (R37 to R39), and the station evaluation of a station without an account (R53). -/

namespace Sys2Proof.Machine

/-- The spindle of a station replaced. -/
def State.setSpindle (s : State) (i : Station) (p : Spindle) : State := s.modStation i fun r => { r with spindle := p }

/-! ### Delivery estimate, lead and evaluation (R37 to R40) -/

/-- A: the queued jobs of other stations of class 0 or 1 (R37). -/
def State.urgentOthers (s : State) (i : Station) : Nat :=
  (s.queue.filter fun j => !decide (j.station = i) && decide (j.cls ≤ 1)).length

/-- The delivery estimate D = T_s + A × J_m (R37). -/
def State.deliveryEstimate (s : State) (i : Station) : Nat :=
  (s.station i).travel + s.urgentOthers i * s.params.jobTime

/-- The lead K = (D + C_avg − 1) div C_avg + G, clamped to 1..63 (R38). -/
def State.leadOf (s : State) (i : Station) (u : Setup) : Nat :=
  let avg := (s.station i).cAvg
  max 1 (min ((s.deliveryEstimate i + avg - 1) / avg + u.margin) 63)

/-- Step 1 of a lead evaluation: LOW without a BAR job returns to RUNNING (R39). -/
def State.leadReturn (s : State) (i : Station) : State :=
  match (s.station i).spindle with
  | .low u a => if s.hasJob true i then s else s.setSpindle i (.running u a)
  | _ => s

/-- Step 2 of a lead evaluation: D and K are recomputed (R39). -/
def State.leadRecompute (s : State) (i : Station) : State :=
  match (s.station i).spindle.setup?, (s.station i).spindle.account? with
  | some u, some a => s.setSpindle i ((s.station i).spindle.withAccount { a with lead := s.leadOf i u })
  | _, _ => s

/-- Step 3 of a lead evaluation: a RUNNING station with an empty cradle, no BAR job and N ≤ K posts a BAR job of class 2
and becomes LOW (R39). -/
def State.leadTrigger (s : State) (i : Station) : State :=
  match (s.station i).spindle with
  | .running u a =>
    if (s.station i).cradle.isNone ∧ !s.hasJob true i ∧ a.partsLeft ≤ a.lead then
      (s.post .bar 2 i).setSpindle i (.low u a)
    else s
  | _ => s

/-- Step 4 of a lead evaluation: N = 0 in RUNNING or LOW enters ENDING (R39, R40). -/
def State.leadEnding (s : State) (i : Station) : State :=
  match (s.station i).spindle with
  | .running u a => if a.partsLeft = 0 then s.setSpindle i (.ending u a) else s
  | .low u a => if a.partsLeft = 0 then s.setSpindle i (.ending u a) else s
  | _ => s

/-- The lead evaluation of a station that holds an account (R39); in ENDING only the recompute has effect. -/
def State.leadEvaluate (s : State) (i : Station) : State :=
  (((s.leadReturn i).leadRecompute i).leadTrigger i).leadEnding i

/-- The station evaluation of a NO_BAR or STARVED station (R53): STARVED without a BAR job returns to NO_BAR; NO_BAR with
an empty cradle raises its BAR job to class 0 or posts one, and becomes STARVED. -/
def State.stationEvaluate (s : State) (i : Station) : State :=
  let s1 :=
    match (s.station i).spindle with
    | .starved u => if s.hasJob true i then s else s.setSpindle i (.noBar u)
    | _ => s
  match (s1.station i).spindle with
  | .noBar u =>
    if (s1.station i).cradle.isSome then s1
    else if s1.hasJob true i then (s1.raiseClass true i 0).setSpindle i (.starved u)
    else (s1.post .bar 0 i).setSpindle i (.starved u)
  | _ => s1

/-- A BAR job matches its station: the bar state is LOW, STARVED or ENDING and the cradle is empty (R63). -/
def State.barMatches (s : State) (j : Job) : Bool :=
  (s.station j.station).cradle.isNone &&
    match (s.station j.station).spindle with
    | .low _ _ => true
    | .starved _ => true
    | .ending _ _ => true
    | _ => false

/-- The match test of a job whose load has been taken home (R63, R85). -/
def State.jobMatches (s : State) (j : Job) : Bool := if j.isBar then s.barMatches j else s.toteMatches j

/-! ### LOAD (R23, R24) -/

/-- The length B of a loaded bar: the measured length unless it exceeds the recorded one by more than T_len (R24). -/
def settledLength (recorded tol : Nat) : Option Nat → Nat
  | none => recorded
  | some m => if m ≤ recorded + tol then m else recorded

/-- The account opened from a cradle bar, before the lead is evaluated (R23 steps 1 to 5). -/
def openAccount (u : Setup) (b : Bar) (length : Nat) : Account where
  bar := { b with length := length }
  rem := length - u.facing
  made := 0
  partsLeft := partsLeftOf u (length - u.facing)
  lead := 1
  inexact := false

/-- A taken LOAD (R23): the cradle is emptied, the account opened, the last PART_OFF time made absent, the bar state
RUNNING and the lead evaluated; a rejected measurement raises LENGTH_MISMATCH (R24). -/
def State.takeLoad (s : State) (i : Station) (u : Setup) (b : Bar) (measured : Option Nat) : State :=
  let s1 :=
    match measured with
    | some m =>
      if b.length + s.params.lengthTol < m then s.raiseEvent .lengthMismatch (.station i) (m - b.length) else s
    | none => s
  let a := openAccount u b (settledLength b.length s.params.lengthTol measured)
  (s1.modStation i fun r => { r with cradle := none, lastPart := none, spindle := .running u a }).leadEvaluate i

/-! ### PART_OFF (R26 to R33, R35) -/

/-- The cycle ring after an interval: appended, the oldest of four dropped first (R34). -/
def ringAppend (ring : List Nat) (iv : Nat) : List Nat :=
  if ring.length < 4 then ring ++ [iv] else ring.drop 1 ++ [iv]

/-- The cycle ring after a taken PART_OFF (R35): the interval since the last PART_OFF time, at least 1, is appended unless
there is no last time, it exceeds 6,000, or the ring is full and it exceeds three times C_avg. -/
def StationRec.ringAfter (r : StationRec) (now : Time) : List Nat :=
  match r.lastPart with
  | none => r.ring
  | some t =>
    let iv := max 1 (elapsed now t)
    if 6000 < iv then r.ring
    else if r.ring.length = 4 ∧ 3 * r.cAvg < iv then r.ring
    else ringAppend r.ring iv

/-- The debit of the carried part: the pitch without an advance, the advance inside the window, otherwise the window's
nearer edge (R28). -/
def debitOf (pitch tol : Nat) : Option Nat → Nat
  | none => pitch
  | some a => if a + tol < pitch then pitch - tol else if pitch + tol < a then pitch + tol else a

/-- The advance lies outside the window (R28). -/
def outsideWindow (pitch tol : Nat) (a : Nat) : Bool := decide (a + tol < pitch) || decide (pitch + tol < a)

/-- The drift count and flag after the carried part, and FEED_DRIFT at every third advance outside the window (R28,
R29). -/
def State.countDrift (s : State) (i : Station) (pitch : Nat) : Option Nat → State
  | none => s
  | some a =>
    if outsideWindow pitch s.params.advanceTol a then
      if (s.station i).drift + 1 = 3 then
        (s.modStation i fun r => { r with drift := 0, driftFlag := true }).raiseEvent .feedDrift (.station i) a
      else s.modStation i fun r => { r with drift := r.drift + 1 }
    else s.modStation i fun r => { r with drift := 0, driftFlag := false }

/-- The account after a taken PART_OFF with count `c` and carried debit `d`: the missing parts debited at the pitch and
the carried part by `d`, each floored at zero; N recomputed; the inexact flag set by a gap, a floored debit or ENDING
(R26, R27, R30, R31, R33). -/
def Account.afterPart (acc : Account) (u : Setup) (c d : Nat) (isEnding : Bool) : Account :=
  let missing := c - acc.made - 1
  let rem1 := acc.rem - missing * u.pitch
  let rem2 := rem1 - d
  { acc with
    rem := rem2
    made := c
    partsLeft := partsLeftOf u rem2
    inexact := acc.inexact || decide (0 < missing) || decide (rem1 < d) || isEnding }

/-- The notice sets a cause of inexactness: a gap, a floored debit, or a part taken in ENDING (R31). -/
def Account.partInexact (acc : Account) (u : Setup) (c d : Nat) (isEnding : Bool) : Bool :=
  let missing := c - acc.made - 1
  decide (0 < missing) || decide (acc.rem - missing * u.pitch < d) || isEnding

/-- A taken PART_OFF in the steps of R26: cycle interval, debits and drift, parts made and N, ACCOUNT_INEXACT, total parts
and tote, lead evaluation. -/
def State.takePart (s : State) (i : Station) (u : Setup) (acc : Account) (c : Nat) (scrap : Bool)
    (advance : Option Nat) : State :=
  let r := s.station i
  let isEnding := decide (r.spindle.barState = .ending)
  let d := debitOf u.pitch s.params.advanceTol advance
  let s1 := s.modStation i fun q => { q with ring := r.ringAfter s.clock, lastPart := some s.clock }
  let s2 := s1.countDrift i u.pitch advance
  let s3 := s2.setSpindle i ((s2.station i).spindle.withAccount (acc.afterPart u c d isEnding))
  let s4 := if acc.partInexact u c d isEnding then s3.raiseEvent .accountInexact (.station i) c else s3
  let g := c - acc.made
  let s5 := s4.modStation i fun q => { q with totalParts := sat32 (q.totalParts + g) }
  ((s5.fillTote i u (if scrap then g - 1 else g)).leadEvaluate i)

/-! ### BAR_END (R60, R61) -/

/-- A taken BAR_END: the remnant comparison, the statistics, the account closed and the station evaluated (R60, R61). -/
def State.takeBarEnd (s : State) (i : Station) (u : Setup) (acc : Account) (remnant : Option Nat) : State :=
  let s1 :=
    match remnant with
    | some m =>
      if s.params.lengthTol < (m - acc.rem) + (acc.rem - m) then
        s.raiseEvent .lengthMismatch (.station i) ((m - acc.rem) + (acc.rem - m))
      else s
    | none => s
  (s1.modStation i fun r => { r with
    totalRemnant := sat32 (r.totalRemnant + remnant.getD acc.rem)
    barsConsumed := sat32 (r.barsConsumed + 1)
    spindle := .noBar u }).stationEvaluate i

end Sys2Proof.Machine
end

