-- ==== Sys2Proof/Machine/Shuttle.lean ====
section
/-! DEFINITION. The shuttle sequencer and zone control: phases and their effects (R128 to R132), return sub-sequences
(R133, R134), admission, decline and zone timeout (R141 to R151), cancel-pending (R135) and entry to FAULT (R155). -/

namespace Sys2Proof.Machine

/-- The current job goes on with a phase whose move is issued at once (R129, R133). -/
def State.goPhase (s : State) (c : Current) (p : Phase) (target : Target) (action : Action) : State :=
  s.issueMove (.job { c with phase := p }) target action

/-- The zone record's state of a station replaced. -/
def State.setZone (s : State) (i : Station) (z : Zone) : State := s.modStation i fun r => { r with zone := z }

/-- The end of a visit: the zone CLOSED, open-until and H absent (R147, R149). -/
def State.closeVisit (s : State) (i : Station) : State :=
  s.modStation i fun r => { r with zone := .closed, handoff := none }

/-- The zone released at the completion of a hand-off: ZONE_RELEASED with outcome DONE, then CLOSED (R147). -/
def State.releaseZone (s : State) (i : Station) (n : Nat) : State :=
  (s.notify i (Frame.zoneReleasedDone n)).closeVisit i

/-- The visit withdrawn: ZONE_RELEASED with outcome WITHDRAWN, then CLOSED (R149 step 2). -/
def State.withdrawVisit (s : State) (i : Station) (n : Nat) : State :=
  (s.notify i (Frame.zoneReleasedWithdrawn n)).closeVisit i

/-! ### Return sub-sequences (R133, R134, R165) -/

/-- A STARVED station of a BAR job that ended by RECOVER RETURN is evaluated (R165 step 5). -/
def State.evaluateAfterReturn (s : State) (j : Job) : State :=
  if j.isBar ∧ (s.station j.station).spindle.barState = .starved then s.stationEvaluate j.station else s

/-- The end of a return, with the bar put back and its origin slot if there was one. RE_QUEUE for a matching station
re-queues the job, its slot RESERVED to it again; otherwise the job ends, its slot READY and its bar offered once it
has ended (R134, R150, R165). -/
def State.returnEnd (s : State) (c : Current) (d : Disposition) (put : Option (Bar × SlotIx)) : State :=
  if d = .reQueue ∧ s.jobMatches c.job then
    (match put with
     | some (b, o) => s.setSlot o (.reserved b c.job.number)
     | none => s).reQueue c
  else
    let s1 :=
      match put with
      | some (b, o) => (s.setSlot o (.ready b)).endCurrent c [o] State.enterIdle
      | none => s.endCurrent c [] State.enterIdle
    if d = .endJob then s1.evaluateAfterReturn c.job else s1

/-- A return sub-sequence started with a disposition, its phases chosen by the load; with load NONE its end is applied
at once (R133). -/
def State.startReturn (s : State) (c : Current) (d : Disposition) : State :=
  let c1 : Current := { c with ret := some d, cancel := false }
  match s.load with
  | .bar _ o => s.goPhase c1 .toSlot (.slot o) .travel
  | .totes .empty => s.goPhase c1 .toStand .stand .travel
  | .totes (.full _ _) => s.goPhase c1 .toOutbound .outbound .travel
  | .nothing => s.returnEnd c1 d none

/-- A phase of a return completed (R129, R134). -/
def State.returnPhaseDone (s : State) (c : Current) (d : Disposition) : State :=
  match c.phase with
  | .toSlot =>
    match s.load with
    | .bar _ o => s.goPhase c .putBack (.slot o) .placeBar
    | _ => s
  | .toStand => s.goPhase c .place .stand .placeTote
  | .toOutbound => s.goPhase c .placeFull .outbound .placeTote
  | .putBack =>
    match s.load with
    | .bar b o => (s.setLoad .nothing).returnEnd c d (some (b, o))
    | _ => s
  | .place => s.placeStand.returnEnd c d none
  | .placeFull => s.placeFull.returnEnd { c with outRes := false } d none
  | _ => s

/-! ### Zone wait, admission and timeout (R141 to R149) -/

/-- A zone timeout with cause 1 (deadline) or 2 (four deferrals): ZONE_TIMEOUT raised, the visit withdrawn, and a return
started with disposition RE_QUEUE (R149). -/
def State.zoneTimeout (s : State) (c : Current) (cause : Nat) : State :=
  let i := c.job.station
  ((s.raiseEvent .zoneTimeout (.station i) (cause * 256 + c.job.number)).withdrawVisit i c.job.number).startReturn c
    .reQueue

/-- The hand-off phase of a job kind, with its move (R128, R143). -/
def State.admitVisit (s : State) (c : Current) : State :=
  let i := c.job.station
  let s1 := s.setZone i .inUse
  match c.job.kind with
  | .bar => s1.goPhase c .handoff (.cradle i) .placeBar
  | .swap => s1.goPhase c .swap (.totePort i) .swapTote
  | .place => s1.goPhase c .place (.totePort i) .placeTote

/-- A grant declined with the remaining window found short (R144): REQUESTED, the deferral count raised, ZONE_DECLINE
sent, and at four deferrals a zone timeout. -/
def State.decline (s : State) (c : Current) (deadline : Time) (remaining : Nat) : State :=
  let i := c.job.station
  let n := c.job.deferral + 1
  let c1 : Current := { c with job := { c.job with deferral := n } }
  let h := ((s.station i).handoff.getD 0)
  let s1 := ((s.setZone i .requested).setShuttle (.zoneWait c1 deadline)).notify i
    (Frame.zoneDecline c.job.number h remaining n)
  if 4 ≤ n then s1.zoneTimeout c1 2 else s1

/-- The admission test at station `i`, which runs when its zone is OPEN and a visit is being waited at: admitted with at
least H remaining, otherwise declined (R143). -/
def State.admission (s : State) (i : Station) : State :=
  match s.shuttle, (s.station i).zone with
  | .zoneWait c deadline, .opened till =>
    if c.job.station = i then
      let remaining := timeLeft s.clock till
      if ((s.station i).handoff.getD 0) ≤ remaining then s.admitVisit c else s.decline c deadline remaining
    else s
  | _, _ => s

/-- The ZONE_REQUEST of a visit: job, kind, H held, and the tag of the bar on the load or 0 (R153). -/
def State.requestZone (s : State) (c : Current) : State :=
  s.notify c.job.station
    (Frame.zoneRequest c.job.number c.job.kind ((s.station c.job.station).handoff.getD 0)
      (if c.job.isBar then (s.load.bar?.map Bar.tag).getD 0 else 0))

/-- Steps 2 to 4 of an arrival: ZONE_REQUEST sent, the zone wait deadline set, a CLOSED zone REQUESTED and an OPEN one
tested for admission (R141, R163). -/
def State.beginWait (s : State) (c : Current) : State :=
  let i := c.job.station
  let s1 := (s.requestZone c).setShuttle (.zoneWait { c with phase := .zoneWait } (timeAfter s.clock s.params.zoneWait))
  match (s1.station i).zone with
  | .closed => s1.setZone i .requested
  | .opened _ => s1.admission i
  | _ => s1

/-- A visit arrives: H is written into the zone record, then the wait begins (R141). -/
def State.arrive (s : State) (c : Current) : State :=
  let h := if c.job.isBar then s.params.barHandoff else s.params.toteHandoff
  (s.modStation c.job.station fun r => { r with handoff := some h }).beginWait c

/-! ### Phase completion (R129 to R132, R135) -/

/-- PICK done: the slot's bar record becomes the load with the slot as origin, and the slot becomes OUT (R130). -/
def State.pickBar (s : State) (k : SlotIx) : State :=
  match s.slot k with
  | .reserved b n => (s.setLoad (.bar b k)).setSlot k (.out n)
  | _ => s

/-- The cradle of a station filled at a hand-off: the bar state changes by R62 and CRADLE_FILLED is sent. -/
def State.fillCradle (s : State) (i : Station) (b : Bar) : State :=
  (s.modStation i fun r => { r with
    cradle := some b
    spindle :=
      match r.spindle with
      | .low u a => .running u a
      | .starved u => .noBar u
      | x => x }).notify i (Frame.cradleFilled b.tag b.length)

/-- HANDOFF done: the origin slot EMPTY, the load NONE, the cradle filled (R62, R130). -/
def State.handOff (s : State) (i : Station) : State :=
  match s.load with
  | .bar b o => ((s.setSlot o .empty).setLoad .nothing).fillCradle i b
  | _ => s

/-- The end of a job whose last phase is done; the station of a TOTE_SWAP is tote-evaluated (R132). -/
def State.endJob (s : State) (c : Current) : State :=
  s.endCurrent c [] fun s1 =>
    let s2 := s1.enterIdle
    if c.job.kind = .swap then s2.toteEvaluate c.job.station else s2

/-- A phase of a job's own sequence completed: its effects, then the next phase, the zone wait or the job's end (R128 to
R132). -/
def State.jobPhaseDone (s : State) (c : Current) : State :=
  let i := c.job.station
  match c.phase with
  | .toSlot =>
    match c.job.slot with
    | some k => s.goPhase c .pick (.slot k) .pickBar
    | none => s
  | .pick =>
    match c.job.slot with
    | some k => (s.pickBar k).goPhase c .toStation (.cradle i) .travel
    | none => s
  | .toStand => s.goPhase c .pickEmpty .stand .pickTote
  | .pickEmpty => s.pickEmpty.goPhase { c with standRes := false } .toStation (.totePort i) .travel
  | .toStation => s.arrive c
  | .handoff => ((s.handOff i).releaseZone i c.job.number).endJob c
  | .swap => ((s.swapTote i).releaseZone i c.job.number).goPhase c .toOutbound .outbound .travel
  | .place => ((s.placeTote i).releaseZone i c.job.number).endJob c
  | .toOutbound => s.goPhase c .placeFull .outbound .placeTote
  | .placeFull => s.placeFull.endJob { c with outRes := false }
  | .zoneWait => s
  | .putBack => s

/-- The completion of the move of a phase (R129): a set cancel-pending flag ends the job (R135); a return goes on by
R134; otherwise the job's own sequence. -/
def State.phaseDone (s : State) (c : Current) : State :=
  if c.cancel then s.endCurrent c [] State.enterIdle
  else
    match c.ret with
    | some d => s.returnPhaseDone c d
    | none => s.jobPhaseDone c

/-- The move of a work completed: a job's phase by R129, or the end of a manual move (R136). -/
def State.workDone (s : State) : Work → State
  | .job c => s.phaseDone c
  | .manual => s.enterIdle

/-! ### Entry to FAULT (R119, R155) -/

/-- The shuttle enters FAULT from MOVING or ZONE_WAIT: the work and the move are kept, a fault record is written, the
PINGs are not resumed, and the cause is raised with hall scope (R126, R155). -/
def State.enterFault (s : State) (cause : FaultCause) (detail : Nat) : State :=
  let att : Cause :=
    match cause with
    | .driveFault => .driveFault
    | .moveTimeout => .moveTimeout
  match s.shuttle with
  | .moving w m => (s.setShuttle (.fault w ⟨cause, detail, s.clock⟩ (some m))).raiseEvent att .hall detail
  | .zoneWait c _ => (s.setShuttle (.fault (.job c) ⟨cause, detail, s.clock⟩ none)).raiseEvent att .hall detail
  | _ => s

end Sys2Proof.Machine
end

