-- ==== Sys2Proof/Machine/Drive.lean ====
section
/-! DEFINITION. The drive port's commands: DONE, FAULT and PING (R121, R124, R125, R156), the changes of DRV_RDY (R120),
the PING that falls due (R121) and the move deadline (R124). -/

namespace Sys2Proof.Machine

/-- The drive port's receiver back in HUNT after a frame was handed on or discarded (R183). -/
def State.huntDrive (s : State) : State := s.setDrive { s.drive with rx := .hunt }

/-- A stale answer of the drive: discarded, and one added to the drive port's error count (R125). -/
def State.staleAnswer (s : State) : State := s.countError .drive

/-- DONE (R124, R125): in MOVING with the tag of the move in flight it completes the move; otherwise it is stale. -/
def State.driveDone (s : State) (tag : Nat) : State :=
  match s.shuttle with
  | .moving w m => if m.tag = tag then s.workDone w else s.staleAnswer
  | _ => s.staleAnswer

/-- FAULT with a code (R125, R156): for the move in flight it enters FAULT; for the move of the fault it refines the
fault record and raises DRIVE_FAULT again; otherwise it is stale. -/
def State.driveFault (s : State) (tag code : Nat) : State :=
  match s.shuttle with
  | .moving _ m => if m.tag = tag then s.enterFault .driveFault code else s.staleAnswer
  | .fault w f (some m) =>
    if m.tag = tag then
      (s.setShuttle (.fault w { f with cause := .driveFault, detail := code } (some m))).raiseEvent .driveFault .hall code
    else s.staleAnswer
  | _ => s.staleAnswer

/-- PING answered (R121, R125): with the tag outstanding in IDLE or OFFLINE the unanswered count becomes 0, and an
OFFLINE shuttle with DRV_RDY high becomes IDLE; otherwise it is stale. -/
def State.drivePing (s : State) (tag : Nat) : State :=
  if s.pinging && decide (s.drive.pingOut = some tag) then
    let s1 := s.setDrive { s.drive with pingOut := none, unanswered := 0 }
    if s.shuttle = .offline then s1.enterIdle else s1
  else s.staleAnswer

/-- DRV_RDY rises (R120): the level is recorded; an OFFLINE shuttle becomes IDLE with the unanswered ping count 0. A
level already high does not change, and nothing happens. -/
def State.readyRise (s : State) : State :=
  if s.drive.ready then s
  else
    match s.shuttle with
    | .offline => (s.setDrive { s.drive with ready := true, unanswered := 0 }).enterIdle
    | _ => s.setDrive { s.drive with ready := true }

/-- DRV_RDY falls (R120): the level is recorded; IDLE goes OFFLINE, MOVING and ZONE_WAIT enter FAULT with detail NOT_READY
(0100h), and an OFFLINE shuttle sends no further PING (R121). A level already low does not change. -/
def State.readyFall (s : State) : State :=
  if s.drive.ready then
    let s1 := s.setDrive { s.drive with ready := false }
    match s.shuttle with
    | .offline => s1.enterOffline
    | .idle => s1.enterOffline
    | .moving _ _ => s1.enterFault .driveFault 0x100
    | .zoneWait _ _ => s1.enterFault .driveFault 0x100
    | .fault _ _ _ => s1
  else s

/-- A PING has fallen due (R121). -/
def State.pingDueNow (s : State) : Bool :=
  s.pinging &&
    match s.drive.pingAt with
    | some t => reached s.clock t
    | none => false

/-- A PING falls due (R121): a fresh PING is sent and the next is due 10 ds on. If the one before is unanswered the
unanswered count rises by one, holding at 3; a rise to 3 in IDLE makes the shuttle OFFLINE with DRIVE_FAULT, detail
SILENT (0101h). Where none is due nothing happens. -/
def State.sendPing (s : State) : State :=
  if s.pingDueNow then
    let missed := s.drive.pingOut.isSome
    let tag := nextTag s.drive.pingTag
    let n := if missed then min (s.drive.unanswered + 1) 3 else s.drive.unanswered
    let s1 := s.setDrive { s.drive with
      pingTag := tag
      tx := s.drive.tx ++ [Frame.ping tag]
      unanswered := n
      pingOut := some tag
      pingAt := s.drive.pingAt.map fun t => timeAfter t 10 }
    if missed ∧ n = 3 ∧ s.shuttle = .idle then s1.enterOffline.raiseEvent .driveFault .hall 0x101 else s1
  else s

/-- The deadline of the move in flight is reached (R124). -/
def State.moveDeadlineDue (s : State) : Bool :=
  match s.shuttle with
  | .moving _ m => reached s.clock m.deadline
  | _ => false

/-- The expiry of the move deadline: FAULT with cause MOVE_TIMEOUT and the move's tag as detail (R124). Where it is not
reached nothing happens. -/
def State.expireMove (s : State) : State :=
  match s.shuttle with
  | .moving _ m => if reached s.clock m.deadline then s.enterFault .moveTimeout m.tag else s
  | _ => s

end Sys2Proof.Machine
end

