-- ==== Sys2Proof/Machine/Stations.lean ====
section
/-! DEFINITION. The station ports' requests (R184 to R188): the valid frame and the link's return (R48, R50), the answer
before its notices (R185), the restart of a station (R64 to R66, R152), and each request's own checks and effect. -/

namespace Sys2Proof.Machine

/-! ### The link (R48, R50) -/

/-- The link of a station replaced. -/
def State.setLink (s : State) (i : Station) (l : Link) : State := s.modStation i fun r => { r with link := l }

/-- A valid frame: the last-heard time becomes now, and the receiver is back in HUNT (R48, R183, R189). -/
def State.heard (s : State) (i : Station) : State :=
  s.modStation i fun r => { r with lastHeard := some s.clock, rx := .hunt }

/-- The bar state is NO_BAR or STARVED, so the station is evaluated (R53); otherwise nothing. -/
def State.evaluateIfIdle (s : State) (i : Station) : State :=
  match (s.station i).spindle with
  | .noBar _ => s.stationEvaluate i
  | .starved _ => s.stationEvaluate i
  | _ => s

/-- The return of a LOST link to UP by a valid frame, before the frame is acted on (R50): UP, LINK_LOST removed, a queued
BAR job without a slot selects, a NO_BAR or STARVED station is evaluated, and the dispatcher is informed. -/
def State.linkReturn (s : State) (i : Station) : State :=
  if (s.station i).link.isLost then
    ((((s.setLink i .up).endCondition .linkLost (.station i)).select i).evaluateIfIdle i).informDispatcher
  else s

/-! ### Restart (R64, R65, R66, R152) -/

/-- Station `i`'s queued jobs removed one after another (R64 step 1). -/
def State.removeJobs (s : State) : List Job → State
  | [] => s
  | j :: js => (s.removeQueued ((s.queuedJob j.number).getD j)).removeJobs js

/-- A current BAR job of class 0 of the restarted station becomes class 1 (R65). -/
def State.demoteCurrent (s : State) (i : Station) : State :=
  match s.currentOf true i with
  | some j => if j.cls = 0 then s.modCurrent fun q => { q with cls := 1 } else s
  | none => s

/-- A visit is being waited at station `i` (R139). -/
def State.waitedAt (s : State) (i : Station) : Option Current :=
  match s.shuttle with
  | .zoneWait c _ => if c.job.station = i then some c else none
  | _ => none

/-- A visit of the current job is in progress at station `i` (R139). -/
def State.visitAt (s : State) (i : Station) : Bool :=
  match s.current? with
  | some c => decide (c.job.station = i) && c.visiting
  | none => false

/-- Steps 3 to 6 of a restart: account, setup, ring and drift cleared, the zone CLOSED unless IN_USE, H kept while a
visit is in progress, and the station's attention records removed (R64, R152). -/
def State.clearStation (s : State) (i : Station) : State :=
  let visit := s.visitAt i
  (s.modStation i fun r => { r with
    spindle := .unset
    ring := []
    lastPart := none
    drift := 0
    driftFlag := false
    zone := if r.zone = .inUse then .inUse else .closed
    handoff := if visit then r.handoff else none }).dropStationRecords i

/-- A station restart (R64) that leaves the link in `link` (R66): jobs removed, the current job kept, the record cleared,
and with the link UP a waiting visit's ZONE_REQUEST sent again (R152) and the tote attach evaluation. -/
def State.restart (s : State) (i : Station) (link : Link) : State :=
  let s1 := s.removeJobs (s.queue.filter fun j => decide (j.station = i))
  let s2 := ((s1.demoteCurrent i).clearStation i).setLink i link
  if link = .up then
    (match s2.waitedAt i with
     | some c => s2.requestZone c
     | none => s2).toteAttach i
  else s2

/-! ### One request, one answer (R185, R186) -/

/-- The line of a station emptied, so that the notices of the request can be put behind its answer. -/
def State.takeLine (s : State) (i : Station) : State := s.modStation i fun r => { r with tx := [] }

/-- The answer put behind the frames that awaited transmission and before the notices of the request (R185). -/
def State.placeAnswer (s : State) (i : Station) (before : List Frame) (answer : Frame) : State :=
  s.modStation i fun r => { r with tx := before ++ answer :: r.tx }

/-- A valid frame of a station: discarded without any effect while the present flag is clear (R47); otherwise the
last-heard time moves, the LOST link returns if `returns`, the request is applied and answered, its notices follow the
answer, and a dispatch evaluation it gave rise to is made (R50, R106, R185). -/
def State.request (s : State) (i : Station) (returns : Bool) (apply : State → State × Frame) : State :=
  if (s.station i).present then
    let s1 := s.heard i
    let s2 := if returns then s1.linkReturn i else s1
    let p := apply (s2.takeLine i)
    (p.1.placeAnswer i (s2.station i).tx p.2).settle
  else s.modStation i fun r => { r with rx := .hunt }

/-- A request other than HELLO: refused WRONG_STATE with field index 0 in DETACHED, otherwise applied (R52, R184). -/
def State.attachedRequest (s : State) (i : Station) (type : Byte) (apply : State → State × Frame) : State :=
  s.request i true fun s1 =>
    if (s1.station i).link = .detached then (s1, Frame.refused type .wrongState 0) else apply s1

/-! ### HELLO and DETACH (R48, R66) -/

/-- HELLO: attaches a DETACHED station, whose totes are then attach-evaluated; restarts a station UP or LOST. -/
def State.helloRequest (s : State) (i : Station) : State :=
  s.request i false fun s1 =>
    (if (s1.station i).link = .detached then (s1.setLink i .up).toteAttach i else s1.restart i .up, Frame.ack 0x01#8)

/-- DETACH: the station restarted with its link DETACHED (R66). -/
def State.detachRequest (s : State) (i : Station) : State :=
  s.attachedRequest i 0x09#8 fun s1 => (s1.restart i .detached, Frame.ack 0x09#8)

/-! ### SETUP (R57, R58, R79, R15, R42) -/

/-- The setup a SETUP declares, with C_d, G and E clamped (R58); `none` where the section code is none. -/
def setupOf (f : SetupFields) : Option Setup :=
  match shapeOfCode f.shape.toNat with
  | none => none
  | some sh => some {
      stock := ⟨f.material.toNat, sh, f.size.toNat⟩
      partLen := f.partLen.toNat
      cutOff := f.cutOff.toNat
      facing := f.facing.toNat
      remnant := f.remnant.toNat
      cycle := max 1 (min f.cycle.toNat 6000)
      margin := min f.margin.toNat 15
      capacity := f.capacity.toNat
      exchange := min f.exchange.toNat (f.capacity.toNat - 1) }

/-- The first of SETUP's checked fields out of range, by its index (R57 check 2). -/
def setupRangeError (f : SetupFields) : Option Nat :=
  if f.material.toNat < 1 ∨ 1023 < f.material.toNat then some 1
  else if (shapeOfCode f.shape.toNat).isNone then some 2
  else if f.size.toNat < 20 ∨ 1000 < f.size.toNat then some 3
  else if f.partLen.toNat < 100 ∨ 200000 < f.partLen.toNat then some 4
  else if 1500 < f.cutOff.toNat then some 5
  else if 3000 < f.facing.toNat then some 6
  else if f.remnant.toNat < 2000 ∨ 200000 < f.remnant.toNat then some 7
  else if f.capacity.toNat < 1 ∨ 999 < f.capacity.toNat then some 10
  else none

/-- The stock code of a SETUP differs from the one of a setup (R57 check 1). -/
def stockDiffers (f : SetupFields) (u : Setup) : Bool :=
  !(decide (f.material.toNat = u.stock.material) && decide (f.shape.toNat = u.stock.shape.code) &&
    decide (f.size.toNat = u.stock.size))

/-- The refusal of a SETUP, the first check of R57 that fails. -/
def setupRefusal (p : Spindle) (f : SetupFields) : Option (StationReason × Nat) :=
  if p.account?.isSome && (match p.setup? with | some u => stockDiffers f u | none => false) then some (.wrongState, 0)
  else
    match setupRangeError f with
    | some k => some (.range, k)
    | none =>
      if 200000 < f.partLen.toNat + f.cutOff.toNat then some (.range, 5)
      else if 400000 < f.facing.toNat + f.remnant.toNat + f.partLen.toNat + f.cutOff.toNat then some (.unfeasible, 0)
      else none

/-- The re-check of the station's queued BAR job at an accepted SETUP (R15): with a slot whose bar the new setup does not
accept, or after a change of stock code, the reservation is released and the job selects; without a slot it selects. -/
def State.recheckJob (s : State) (i : Station) (stockChanged : Bool) (u : Setup) : State :=
  match s.queuedOf true i with
  | none => s
  | some j =>
    match j.slot with
    | none => s.select i
    | some k =>
      let fits :=
        match (s.slot k).bar? with
        | some b => u.accepts b
        | none => false
      if stockChanged || !fits then (s.releaseQueued j).select i else s

/-- Step 3 of R42: N recomputed with the new P and M_r; the rest of the account is left as it was. -/
def State.recomputeParts (s : State) (i : Station) (u : Setup) : State :=
  match (s.station i).spindle.account? with
  | some a => s.setSpindle i ((s.station i).spindle.withAccount { a with partsLeft := partsLeftOf u a.rem })
  | none => s

/-- An accepted SETUP applied (R58): the figures stored, ring and drift cleared, the new Q and E taken in, then by bar
state the evaluation (UNSET), re-check and evaluation (NO_BAR, STARVED), or R42 from its step 3 on. -/
def State.applySetup (s : State) (i : Station) (u : Setup) : State :=
  let old := (s.station i).spindle
  let changed :=
    match old.setup? with
    | some u0 => !decide (u0.stock = u.stock)
    | none => false
  let s1 := s.modStation i fun r => { r with
    spindle := if r.spindle = .unset then .noBar u else r.spindle.withSetup u
    ring := []
    lastPart := none
    drift := 0
    driftFlag := false }
  let s2 := s1.newCapacity i u
  match old with
  | .unset => s2.stationEvaluate i
  | .noBar _ => (s2.recheckJob i changed u).stationEvaluate i
  | .starved _ => (s2.recheckJob i changed u).stationEvaluate i
  | _ => ((s2.recomputeParts i u).recheckJob i changed u).leadEvaluate i

/-- SETUP: refused by the first check that fails, otherwise applied and answered ACK (R57, R58). -/
def State.setupRequest (s : State) (i : Station) (f : SetupFields) : State :=
  s.attachedRequest i 0x02#8 fun s1 =>
    match setupRefusal (s1.station i).spindle f, setupOf f with
    | some (r, k), _ => (s1, Frame.refused 0x02#8 r k)
    | none, some u => (s1.applySetup i u, Frame.ack 0x02#8)
    | none, none => (s1, Frame.refused 0x02#8 .range 2)

/-! ### LOAD, PART_OFF, BAR_END (R25, R56, R59, R60) -/

/-- LOAD in NO_BAR or STARVED with setup `u`: the range check, the cradle check, then taken (R59). -/
def State.loadWith (s : State) (i : Station) (u : Setup) (measured : Option (BitVec 32)) : State × Frame :=
  if 400000 < (measured.getD 0).toNat then (s, Frame.refused 0x03#8 .range 1)
  else
    match (s.station i).cradle with
    | some b => (s.takeLoad i u b (measured.map BitVec.toNat), Frame.ack 0x03#8)
    | none => (s, Frame.refused 0x03#8 .noCradleBar 0)

/-- LOAD: refused WRONG_STATE outside NO_BAR and STARVED (R59). -/
def State.loadRequest (s : State) (i : Station) (measured : Option (BitVec 32)) : State :=
  s.attachedRequest i 0x03#8 fun s1 =>
    match (s1.station i).spindle with
    | .noBar u => s1.loadWith i u measured
    | .starved u => s1.loadWith i u measured
    | _ => (s1, Frame.refused 0x03#8 .wrongState 0)

/-- PART_OFF: refused WRONG_STATE without an account; the scrap flag and the advance range-checked; a repeat answered ACK
and not taken; otherwise taken (R25, R26, R184). -/
def State.partOffRequest (s : State) (i : Station) (count : BitVec 16) (scrap : Byte) (advance : Option (BitVec 32)) :
    State :=
  s.attachedRequest i 0x04#8 fun s1 =>
    match (s1.station i).spindle.setup?, (s1.station i).spindle.account? with
    | some u, some acc =>
      if 1 < scrap.toNat then (s1, Frame.refused 0x04#8 .range 2)
      else if 400000 < (advance.getD 0).toNat then (s1, Frame.refused 0x04#8 .range 3)
      else if count.toNat ≤ acc.made then (s1, Frame.ack 0x04#8)
      else (s1.takePart i u acc count.toNat (scrap != 0) (advance.map BitVec.toNat), Frame.ack 0x04#8)
    | _, _ => (s1, Frame.refused 0x04#8 .wrongState 0)

/-- BAR_END: refused WRONG_STATE without an account, a remnant above 400,000 lu refused RANGE, otherwise taken (R56,
R60). -/
def State.barEndRequest (s : State) (i : Station) (remnant : Option (BitVec 32)) : State :=
  s.attachedRequest i 0x05#8 fun s1 =>
    match (s1.station i).spindle.setup?, (s1.station i).spindle.account? with
    | some u, some acc =>
      if 400000 < (remnant.getD 0).toNat then (s1, Frame.refused 0x05#8 .range 1)
      else (s1.takeBarEnd i u acc (remnant.map BitVec.toNat), Frame.ack 0x05#8)
    | _, _ => (s1, Frame.refused 0x05#8 .wrongState 0)

/-! ### ZONE_GRANT and ZONE_CLOSE (R142, R145) -/

/-- ZONE_GRANT: the window checked, IN_USE answered LATE, otherwise the zone OPEN until now + w and, if a visit is being
waited at, tested for admission (R142). -/
def State.grantRequest (s : State) (i : Station) (window : BitVec 16) : State :=
  s.attachedRequest i 0x06#8 fun s1 =>
    if window.toNat < 10 ∨ 600 < window.toNat then (s1, Frame.refused 0x06#8 .range 1)
    else if (s1.station i).zone = .inUse then (s1, Frame.refused 0x06#8 .late 0)
    else ((s1.setZone i (.opened (timeAfter s1.clock window.toNat))).admission i, Frame.ack 0x06#8)

/-- ZONE_CLOSE: IN_USE answered LATE, otherwise the zone CLOSED (R145). -/
def State.closeRequest (s : State) (i : Station) : State :=
  s.attachedRequest i 0x07#8 fun s1 =>
    if (s1.station i).zone = .inUse then (s1, Frame.refused 0x07#8 .late 0)
    else (s1.setZone i .closed, Frame.ack 0x07#8)

/-! ### STATUS (R188) -/

/-- The byte of a job in STATUS_REPLY: class in bits 0–1, kind in bits 2–3, bit 7 set when current (R198).
Bits 4–6, which R198 names no meaning for, are sent clear: DESIGN CHOICE (unsafe), notes/assumptions/34.md. -/
def jobByte (j : Job) (current : Bool) : Byte :=
  nat8 (j.cls % 4 + 4 * j.kind.code + (if current then 128 else 0))

/-- The number byte and the class byte of a station's BAR job or tote job: number 0 and a free byte when it has none
(R188; notes/assumptions/13.md). -/
def State.jobBytes (s : State) (bar : Bool) (i : Station) : State × List Byte :=
  match s.queuedOf bar i, s.currentOf bar i with
  | some j, _ => (s, [nat8 j.number, jobByte j false])
  | none, some j => (s, [nat8 j.number, jobByte j true])
  | none, none => let p := s.drawByte; (p.1, [0, p.2])

/-- The flags byte of page 0: setup present, cradle holds a bar, account inexact, drift flag (R198). Bits 4–7, which R198
names no meaning for, are sent clear: DESIGN CHOICE (unsafe), notes/assumptions/34.md. -/
def StationRec.statusFlags (r : StationRec) : Nat :=
  (if r.spindle.setup?.isSome then 1 else 0) + (if r.cradle.isSome then 2 else 0) +
    (match r.spindle.account? with | some a => (if a.inexact then 4 else 0) | none => 0) + (if r.driftFlag then 8 else 0)

/-- Page 0 of a STATUS_REPLY (R188, R198). -/
def State.statusPage0 (s : State) (i : Station) : State × Frame :=
  let r := s.station i
  let bar := s.jobBytes true i
  let tote := bar.1.jobBytes false i
  let acc := r.spindle.account?
  (tote.1, ⟨0x42#8,
    [0#8, nat8 r.spindle.barState.code, nat8 r.statusFlags] ++ nat32 ((acc.map Account.rem).getD 0) ++
      nat16 ((acc.map Account.made).getD 0) ++ nat16 ((acc.map Account.partsLeft).getD 0) ++
      [nat8 ((acc.map Account.lead).getD 0)] ++ nat16 r.cAvg ++ nat16 ((r.cradle.map Bar.tag).getD 0) ++
      [nat8 r.tote.code] ++ nat16 r.tote.fill ++ bar.2 ++ tote.2 ++ [nat8 r.zone.code]⟩)

/-- Page 1 of a STATUS_REPLY (R188, R198). -/
def State.statusPage1 (s : State) (i : Station) : Frame :=
  let r := s.station i
  ⟨0x42#8, [1#8] ++ nat32 r.totalParts ++ nat32 r.totalRemnant ++ nat32 r.barsConsumed ++ [nat8 r.errors]⟩

/-- STATUS: a page other than 0 or 1 refused RANGE; otherwise the station evaluation in NO_BAR or STARVED, the tote
evaluation, and then the page asked for, 0 by default (R188). -/
def State.statusRequest (s : State) (i : Station) (page : Option Byte) : State :=
  s.attachedRequest i 0x08#8 fun s1 =>
    let p := (page.getD 0).toNat
    if 1 < p then (s1, Frame.refused 0x08#8 .range 1)
    else
      let s2 := (s1.evaluateIfIdle i).toteEvaluate i
      if p = 0 then s2.statusPage0 i else (s2, s2.statusPage1 i)

/-- A valid frame of a TYPE that is no request: REFUSED UNKNOWN_TYPE with the TYPE echoed, in every link state (R186). -/
def State.unknownTypeRequest (s : State) (i : Station) (type : Byte) : State :=
  s.request i true fun s1 => (s1, Frame.refused type .unknownType 0)

end Sys2Proof.Machine
end

