-- ==== Sys2Proof/Machine/Expiry.lean ====
section
/-! DEFINITION. The expiries at the stations, the queue and the zones: link timeout (R49), reservation hold (R51), backoff
(R103), open-until (R146), zone wait deadline (R148). Each says when it is due, and does nothing where it is not. -/

namespace Sys2Proof.Machine

/-- The link timeout of station `i` has expired: UP and silent for more than the link timeout in force (R49). -/
def State.linkTimeoutDue (s : State) (i : Station) : Bool :=
  decide ((s.station i).link = .up) &&
    match (s.station i).lastHeard with
    | some t => decide (s.params.linkTimeout < elapsed s.clock t)
    | none => false

/-- The link of station `i` enters LOST: the lost time now, LINK_LOST raised, STOCK_OUT removed (R49). -/
def State.expireLink (s : State) (i : Station) : State :=
  if s.linkTimeoutDue i then
    ((s.setLink i (.lost s.clock false)).raiseCondition .linkLost (.station i) 0).endCondition .stockOut (.station i)
  else s

/-- The reservation hold of station `i` falls due: LOST for at least the hold time in force, and not yet taken in this
stay (R51). -/
def State.resHoldDue (s : State) (i : Station) : Bool :=
  match (s.station i).link with
  | .lost since taken => !taken && decide (s.params.resHold ≤ elapsed s.clock since)
  | _ => false

/-- The release at the reservation hold: a queued BAR job's reservation is released and its bar offered; the job stays
queued without a slot (R51). -/
def State.takeResHold (s : State) (i : Station) : State :=
  match (s.station i).link with
  | .lost since _ =>
    let s1 := s.setLink i (.lost since true)
    match s1.queuedOf true i with
    | some j => s1.releaseQueued j
    | none => s1
  | _ => s

/-- The expiry of the reservation hold of station `i`, with the dispatch evaluation it may give (R51, R106). -/
def State.expireResHold (s : State) (i : Station) : State :=
  if s.resHoldDue i then (s.takeResHold i).settle else s

/-! ### A link timeout or a reservation hold time changed (R49, R51) -/

/-- The link timeouts of some stations, one after another; each touches its own station and records only. -/
def State.expireLinks (s : State) : List Station → State
  | [] => s
  | i :: is => (s.expireLink i).expireLinks is

/-- The reservation holds of some stations, one after another; each release is an event with a dispatch evaluation of its
own (R51, R106), also where one HALL_PARAM makes several fall due. DEDUCED (unsafe): notes/assumptions/33.md. -/
def State.expireResHolds (s : State) : List Station → State
  | [] => s
  | i :: is => (s.expireResHold i).expireResHolds is

/-- A changed link timeout applies at once to stations already silent (R49). -/
def State.linksDueNow (s : State) : State := s.expireLinks (allStations.filter s.linkTimeoutDue)

/-- A changed reservation hold time applies at once to the stays in LOST already running; of several releases that fall
due together the order is free (R51; notes/assumptions/2.md), and each gives its own evaluation (notes/assumptions/33.md). -/
def State.resHoldsDueNow (s : State) : State :=
  let p := freelyOrdered s.draws (allStations.filter s.resHoldDue)
  State.expireResHolds { s with draws := p.1 } p.2

/-! ### Backoff, open-until and the zone wait deadline -/

/-- A backoff time is present and reached (R103). -/
def backoffDue (now : Time) (j : Job) : Bool :=
  match j.backoff with
  | some t => reached now t
  | none => false

/-- The expiry of a queued job's backoff: it becomes absent, and the end of the block gives an evaluation (R103). -/
def State.expireBackoff (s : State) (n : Nat) : State :=
  match s.queuedJob n with
  | some j =>
    if backoffDue s.clock j then ((s.modQueued n fun q => { q with backoff := none }).informDispatcher).settle else s
  | none => s

/-- The open-until of station `i`'s zone is reached (R146). -/
def State.openUntilDue (s : State) (i : Station) : Bool :=
  match (s.station i).zone with
  | .opened t => reached s.clock t
  | _ => false

/-- The expiry of open-until: REQUESTED if a visit is in progress at the station, otherwise CLOSED (R146). -/
def State.expireOpen (s : State) (i : Station) : State :=
  if s.openUntilDue i then s.setZone i (if s.visitAt i then .requested else .closed) else s

/-- The zone wait deadline of a waited visit is reached (R148). -/
def State.zoneWaitDue (s : State) : Bool :=
  match s.shuttle with
  | .zoneWait _ d => reached s.clock d
  | _ => false

/-- The expiry of the zone wait deadline: a zone timeout with cause 1 (R148, R149). -/
def State.expireZoneWait (s : State) : State :=
  match s.shuttle with
  | .zoneWait c d => if reached s.clock d then (s.zoneTimeout c 1).settle else s
  | _ => s

end Sys2Proof.Machine
end

