-- ==== Sys2Proof/Machine/Tables.lean ====
section
/-! DEFINITION. What the supervisor reads: the entries of the STOCK, STATION, QUEUE and ATTENTION tables byte by byte
(R115, R194, R198), and the table cursor's read. -/

namespace Sys2Proof.Machine

/-- A flag in a byte. -/
def flag8 (b : Bool) : Byte := if b then 1 else 0

/-- A time field, 0 when absent. -/
def timeBytes (t : Option Time) : List Byte := bytes32 (t.getD 0)

/-- A bar record in 15 bytes, all 0 when no bar is present (R198). -/
def barBytes : Option Bar → List Byte
  | none => List.replicate 15 0
  | some b => nat16 b.tag ++ nat16 b.stock.material ++ [nat8 b.stock.shape.code] ++ nat16 b.stock.size ++
      nat32 b.length ++ nat32 b.stamp

/-- A job record in 16 bytes, all 0 when no job is present (R198). Bits 2–7 of the presence byte, which R198 names no
meaning for, are clear: DESIGN CHOICE (unsafe), notes/assumptions/34.md. -/
def jobRecordBytes : Option Job → List Byte
  | none => List.replicate 16 0
  | some j => [nat8 j.number, nat8 j.kind.code, nat8 (stationNum j.station), nat8 j.cls] ++ bytes32 j.posted ++
      [nat8 j.pass, nat8 ((if j.slot.isSome then 1 else 0) + (if j.backoff.isSome then 2 else 0)),
        nat8 ((j.slot.map slotNum).getD 0)] ++ timeBytes j.backoff ++ [nat8 j.deferral]

/-- The code of a slot state (R198). -/
def Slot.code : Slot → Nat
  | .empty => 0
  | .ready _ => 1
  | .reserved _ _ => 2
  | .out _ => 3
  | .blocked _ => 4

/-- A STOCK entry, 19 bytes. -/
def State.stockEntry (s : State) (k : SlotIx) : List Byte :=
  let sl := s.slot k
  [nat8 (slotNum k), nat8 sl.code, flag8 sl.bar?.isSome, nat8 (sl.owner?.getD 0)] ++ barBytes sl.bar?

/-- A setup in 24 bytes, in the layout of the SETUP request; 0 when absent (R198). -/
def setupEntry : Option Setup → List Byte
  | none => List.replicate 24 0
  | some u => nat16 u.stock.material ++ [nat8 u.stock.shape.code] ++ nat16 u.stock.size ++ nat32 u.partLen ++
      nat16 u.cutOff ++ nat16 u.facing ++ nat32 u.remnant ++ nat16 u.cycle ++ [nat8 u.margin] ++ nat16 u.capacity ++
      nat16 u.exchange

/-- The code of a link state (R198). -/
def Link.code : Link → Nat
  | .detached => 0
  | .up => 1
  | .lost _ _ => 2

/-- The lost time, present in LOST (R46). -/
def Link.lostTime : Link → Option Time
  | .lost t _ => some t
  | _ => none

/-- The open-until of a zone, present in OPEN (R139). -/
def Zone.openUntil : Zone → Option Time
  | .opened t => some t
  | _ => none

/-- The flags word of a STATION entry (R198). Bits 11–15, which R198 names no meaning for, are clear: DESIGN CHOICE (unsafe),
notes/assumptions/34.md. -/
def StationRec.entryFlags (r : StationRec) : Nat :=
  (if r.present then 1 else 0) + (if r.lastHeard.isSome then 2 else 0) + (if r.link.isLost then 4 else 0) +
    (if r.spindle.setup?.isSome then 8 else 0) + (if r.spindle.account?.isSome then 16 else 0) +
    (match r.spindle.account? with | some a => (if a.inexact then 32 else 0) | none => 0) +
    (if r.lastPart.isSome then 64 else 0) + (if r.driftFlag then 128 else 0) + (if r.cradle.isSome then 256 else 0) +
    (if r.zone.openUntil.isSome then 512 else 0) + (if r.handoff.isSome then 1024 else 0)

/-- The ring intervals, oldest first, in four places, 0 beyond those held (R198). -/
def ringBytes (ring : List Nat) : List Byte :=
  nat16 (ring.getD 0 0) ++ nat16 (ring.getD 1 0) ++ nat16 (ring.getD 2 0) ++ nat16 (ring.getD 3 0)

/-- A STATION entry, 121 bytes. -/
def State.stationEntry (s : State) (i : Station) : List Byte :=
  let r := s.station i
  let acc := r.spindle.account?
  [nat8 (stationNum i)] ++ nat16 r.entryFlags ++ [nat8 r.link.code] ++ timeBytes r.lastHeard ++
    timeBytes r.link.lostTime ++ [nat8 r.spindle.barState.code] ++ setupEntry r.spindle.setup? ++
    nat32 ((r.spindle.setup?.map Setup.pitch).getD 0) ++ barBytes (acc.map Account.bar) ++
    nat32 ((acc.map Account.rem).getD 0) ++ nat16 ((acc.map Account.made).getD 0) ++
    nat16 ((acc.map Account.partsLeft).getD 0) ++ [nat8 ((acc.map Account.lead).getD 0), nat8 r.ring.length] ++
    ringBytes r.ring ++ nat16 r.cAvg ++ timeBytes r.lastPart ++ [nat8 r.drift] ++ barBytes r.cradle ++
    [nat8 r.tote.code] ++ nat16 r.tote.fill ++ nat32 r.totalParts ++ nat32 r.totalRemnant ++ nat32 r.barsConsumed ++
    nat16 r.travel ++ [nat8 r.zone.code] ++ timeBytes r.zone.openUntil ++ nat16 (r.handoff.getD 0) ++ [nat8 r.errors]

/-- A QUEUE job entry, 17 bytes: the record and the block reason computed at the read (R115). -/
def State.queueEntry (s : State) (j : Job) : List Byte := jobRecordBytes (some j) ++ [nat8 (s.blockOf j).code]

/-- The code of the shuttle state (R198). -/
def Shuttle.code : Shuttle → Nat
  | .offline => 0
  | .idle => 1
  | .moving _ _ => 2
  | .zoneWait _ _ => 3
  | .fault _ _ _ => 4

/-- The current work of the sequencer, present in MOVING, ZONE_WAIT and FAULT (R118). -/
def Shuttle.work? : Shuttle → Option Work
  | .moving w _ => some w
  | .zoneWait c _ => some (.job c)
  | .fault w _ _ => some w
  | _ => none

/-- The move in flight or of the fault (R118). -/
def Shuttle.move? : Shuttle → Option Move
  | .moving _ m => some m
  | .fault _ _ m => m
  | _ => none

/-- The fault record, present in FAULT (R155). -/
def Shuttle.faultRec? : Shuttle → Option FaultRec
  | .fault _ f _ => some f
  | _ => none

/-- The code of the current work: 0 none, 1 job, 2 manual move (R198). -/
def workCode : Option Work → Nat
  | none => 0
  | some (.job _) => 1
  | some .manual => 2

/-- The hall clock left to the move's deadline, 0 when no deadline is watched (R118, R155, R198). -/
def State.deadlineLeft (s : State) : Nat :=
  match s.shuttle with
  | .moving _ m => timeLeft s.clock m.deadline
  | _ => 0

/-- The fault cause code: 1 DRIVE_FAULT, 2 MOVE_TIMEOUT (R198). -/
def FaultCause.code : FaultCause → Nat
  | .driveFault => 1
  | .moveTimeout => 2

/-- The load part of the final entry: kind, bar record, origin slot, tote entry, fill count, source station
(R198). A field that is absent reads 0: DEDUCED (unsafe), notes/assumptions/35.md. -/
def Load.bytes : Load → List Byte
  | .nothing => [0] ++ barBytes none ++ [0, 0, 0, 0, 0]
  | .bar b o => [1] ++ barBytes (some b) ++ [nat8 (slotNum o), 0, 0, 0, 0]
  | .totes .empty => [2] ++ barBytes none ++ [0, 1, 0, 0, 0]
  | .totes (.full n i) => [2] ++ barBytes none ++ [0, 2] ++ nat16 n ++ [nat8 (stationNum i)]

/-- The six pool figures in six bytes (R198). -/
def Pool.bytes (p : Pool) : List Byte :=
  [nat8 p.population, nat8 p.empties, nat8 p.reserved, nat8 p.outFull, nat8 p.outRes, nat8 p.outCap]

/-- A rotation pointer: the station number, 0 when absent (R198). -/
def pointerByte (b : BayRec) : Byte := nat8 ((b.pointer.map stationNum).getD 0)

/-- Bay order, rotation flags, rotation pointers, hall hold level and station hold mask (R115, R198). -/
def Arbiter.bytes (a : Arbiter) : List Byte :=
  [nat8 a.first.code, nat8 a.second.code, nat8 a.third.code,
    nat8 ((if a.bayA.rotate then 1 else 0) + (if a.bayB.rotate then 2 else 0) + (if a.bayC.rotate then 4 else 0)),
    pointerByte a.bayA, pointerByte a.bayB, pointerByte a.bayC, nat8 a.hold.code] ++ nat16 a.holdMask.toNat

/-- The move part of the final entry: present, tag, target kind, target number, action
(R198). A field that is absent reads 0: DEDUCED (unsafe), notes/assumptions/35.md. -/
def moveBytes : Option Move → List Byte
  | none => [0, 0, 0, 0, 0]
  | some m => [1, nat8 m.tag, nat8 m.target.kindCode, nat8 m.target.number, nat8 m.action.code]

/-- The fault record part of the final entry: present, cause, detail, entry time (R198).
A field that is absent reads 0: DEDUCED (unsafe), notes/assumptions/35.md. -/
def faultBytes : Option FaultRec → List Byte
  | none => [0, 0, 0, 0, 0, 0, 0, 0]
  | some f => [1, nat8 f.cause.code] ++ nat16 f.detail ++ bytes32 f.entered

/-- The return byte: bit 0 the return flag, bit 1 set for disposition END (R198). Bits 2–7, which R198 names no meaning
for, are clear: DESIGN CHOICE (unsafe), notes/assumptions/34.md. Bit 1
is clear where no return flag is set: notes/assumptions/35.md. -/
def returnByte : Option Disposition → Byte
  | none => 0
  | some .reQueue => 1
  | some .endJob => 3

/-- The QUEUE final entry, 78 bytes (R115, R198). -/
def State.finalEntry (s : State) : List Byte :=
  let c := s.current?
  [nat8 (workCode s.shuttle.work?)] ++ jobRecordBytes (c.map Current.job) ++
    [flag8 ((c.map Current.cancel).getD false), nat8 s.shuttle.code, nat8 ((c.map fun x => x.phase.code).getD 0),
      returnByte (c.bind Current.ret)] ++
    moveBytes s.shuttle.move? ++ nat32 s.deadlineLeft ++ [flag8 s.drive.ready, nat8 s.drive.errors] ++
    faultBytes s.shuttle.faultRec? ++ s.load.bytes ++ s.pool.bytes ++ s.arbiter.bytes ++ [nat8 s.jobCounter]

/-- An ATTENTION entry, 10 bytes (R198). -/
def AttRec.entry (r : AttRec) : List Byte :=
  [nat8 r.cause.priority, nat8 r.scope.num] ++ nat16 r.detail ++ [nat8 r.count] ++ bytes32 r.last ++ [nat8 r.mark]

/-- The entry kind and entry at an index of a table: 0 END, 1 an entry, 2 the final entry of QUEUE (R194, R198). -/
def State.tableEntry (s : State) (t : TableId) (index : Nat) : Nat × List Byte :=
  match t with
  | .stock =>
    match slotOfNum index with
    | some k => (1, s.stockEntry k)
    | none => (0, [])
  | .station =>
    match stationOfNum index with
    | some i => (1, s.stationEntry i)
    | none => (0, [])
  | .queue =>
    match s.queue[index]? with
    | some j => (1, s.queueEntry j)
    | none => if index = s.queue.length then (2, s.finalEntry) else (0, [])
  | .attention =>
    match s.attention[index]? with
    | some r => (1, r.entry)
    | none => (0, [])

/-- The index range of a table for TABLE_CURSOR (R194). -/
def TableId.indexOk (t : TableId) (index : Nat) : Bool :=
  match t with
  | .stock => decide (1 ≤ index ∧ index ≤ 64)
  | .station => decide (1 ≤ index ∧ index ≤ 12)
  | .queue => decide (index ≤ 24)
  | .attention => decide (index ≤ 100)

end Sys2Proof.Machine
end

