-- ==== Sys2Proof/Machine/Recovery.lean ====
section
/-! DEFINITION. RECOVER and its options (R159 to R169), JOB_CANCEL (R110, R111), MANUAL_MOVE (R136). -/

namespace Sys2Proof.Machine

/-! ### RECOVER (R159 to R169) -/

/-- A resumed wait: the visit returns to waiting by steps 2 to 4 of R141 with the H and the deferral count held (R163). -/
def State.resumeWait (s : State) : Work → State
  | .job c => s.beginWait c
  | .manual => s.enterIdle

/-- RETRY: the move of the fault issued again with a fresh tag and deadline, or the wait resumed (R161). -/
def State.retry (s : State) (w : Work) (m : Option Move) : State :=
  match m with
  | some mv => s.issueMove w mv.target mv.action
  | none => s.resumeWait w

/-- RESUME: the move of the fault taken as done, or the wait resumed (R162). -/
def State.resume (s : State) (w : Work) (m : Option Move) : State :=
  match m with
  | some _ => s.workDone w
  | none => s.resumeWait w

/-- A visit of the current job in progress is withdrawn (R149 step 2, R164, R167). -/
def State.withdrawIfVisiting (s : State) (c : Current) : State :=
  if c.visiting then s.withdrawVisit c.job.station c.job.number else s

/-- RETURN: the visit withdrawn, and a return started with disposition END from the load as it stands (R164); a manual
move ends (R169). -/
def State.recoverReturn (s : State) : Work → State
  | .job c => (s.withdrawIfVisiting c).startReturn c .endJob
  | .manual => s.enterIdle

/-- The load settled at a CLEAR: a bar scrapped and its origin slot EMPTY, a tote entry counted back to the stand (R86,
R166). -/
def State.settleLoad (s : State) : State :=
  match s.load with
  | .nothing => s
  | .bar _ o => (s.setSlot o .empty).setLoad .nothing
  | .totes _ => (s.setLoad .nothing).setPool { s.pool with empties := s.pool.empties + 1 }

/-- CLEAR: the load settled, the visit withdrawn, the job's reservations released, the shuttle IDLE or OFFLINE by the
ready level, and a freed slot offered (R160, R166, R167); a manual move ends (R169). -/
def State.recoverClear (s : State) : Work → State
  | .job c => (s.settleLoad.withdrawIfVisiting c).endCurrent c [] State.enterRest
  | .manual => s.enterRest

/-- The refusal of RECOVER, the first check of R159 that fails. -/
def State.recoverRefusal (s : State) (option : Nat) : Option (Reason × Nat) :=
  match s.shuttle with
  | .fault _ _ _ =>
    if option < 1 ∨ 4 < option then some (.range, 1)
    else if s.drive.ready = false ∧ option ≠ 4 then some (.notReady, 0)
    else none
  | _ => some (.wrongState, 0)

/-- The option of an accepted RECOVER applied to a faulted shuttle (R160). -/
def State.recover (s : State) (option : Nat) : State :=
  match s.shuttle with
  | .fault w _ m =>
    match option with
    | 1 => s.retry w m
    | 2 => s.resume w m
    | 3 => s.recoverReturn w
    | _ => s.recoverClear w
  | _ => s

/-- RECOVER as the port takes it: LENGTH, the checks of R159, then the option the payload carries; OK once its immediate
effects and the dispatch evaluation are applied (R191, R192). -/
def State.recoverCommand (s : State) (w : Write) : State :=
  if w.lenOk [1] then
    match s.recoverRefusal (w.u8 0) with
    | some (r, k) => s.refuse w r k
    | none => ((s.recover (w.u8 0)).settle).ok w []
  else s.refuse w .length 0

/-! ### JOB_CANCEL (R110, R111) -/

/-- The cancel-pending flag of the current job in MOVING set (R112). -/
def State.setCancel (s : State) : State :=
  match s.shuttle with
  | .moving (.job c) m => s.setShuttle (.moving (.job { c with cancel := true }) m)
  | _ => s

/-- JOB_CANCEL of the current job: refused WRONG_STATE in FAULT, OK when already pending, set on a TRAVEL with an empty
load, otherwise refused LOADED (R110). -/
def State.cancelCurrent (s : State) (c : Current) (w : Write) : State :=
  match s.shuttle with
  | .fault _ _ _ => s.refuse w .wrongState 0
  | .moving _ m =>
    if c.cancel then s.ok w []
    else if m.action = .travel ∧ s.load = .nothing then s.setCancel.ok w []
    else s.refuse w .loaded 0
  | _ => if c.cancel then s.ok w [] else s.refuse w .loaded 0

/-- JOB_CANCEL, by the first row of R110's table that applies. -/
def State.cancelCommand (s : State) (w : Write) : State :=
  if w.lenOk [1] then
    let n := w.u8 0
    if n = 0 then s.refuse w .range 1
    else
      match s.queuedJob n with
      | some j => ((s.removeQueued j).settle).ok w []
      | none =>
        match s.current? with
        | some c => if c.job.number = n then s.cancelCurrent c w else s.refuse w .noJob 0
        | none => s.refuse w .noJob 0
  else s.refuse w .length 0

/-! ### MANUAL_MOVE (R136) -/

/-- Which field of MANUAL_MOVE is out of range: the target kind, else the target number. -/
def targetField (kind : Nat) : Nat := if 1 ≤ kind ∧ kind ≤ 6 then 2 else 1

/-- MANUAL_MOVE: refused WRONG_MODE in PRODUCTION, RANGE for no valid target, BUSY unless IDLE; otherwise a TRAVEL to the
target is issued and answered OK with its tag (R136). -/
def State.manualCommand (s : State) (w : Write) : State :=
  if w.lenOk [2] then
    if s.supervisor.mode = .production then s.refuse w .wrongMode 0
    else
      match targetOfCode (w.u8 0) (w.u8 1) with
      | none => s.refuse w .range (targetField (w.u8 0))
      | some t =>
        if s.shuttle = .idle then
          let s1 := s.issueMove .manual t .travel
          s1.ok w [nat8 s1.drive.moveTag]
        else s.refuse w .busy 0
  else s.refuse w .length 0

end Sys2Proof.Machine
end

