-- ==== Sys2Proof/Machine/Resets.lean ====
section
/-! DEFINITION. The three resets: power-on (manual 7, R18, R68, R92, R116, R138, R154, R181, R190), HALL_RESET (R69, R117,
R197) and STATION_RESTART (R66, R193, R197). -/

namespace Sys2Proof.Machine

/-! ### Power-on reset -/

/-- The device after a power-on reset. The level of DRV_RDY is the outside's and stays; if it is high the shuttle leaves
OFFLINE at once (R120, R138). The model's count of free values drawn and the queue of waiting commands stay. -/
def State.powerOn (s : State) : State :=
  let s1 : State := { State.reset with
    drive := { Drive.reset with ready := s.drive.ready }
    draws := s.draws
    pending := s.pending }
  if s.drive.ready then { s1.enterIdle with dispatchDue := false } else s1

/-! ### Hall reset (R197) -/

/-- The work of the shuttle holds no load, or there is none: IDLE, OFFLINE, or FAULT with load NONE (R197). -/
def State.hallResetOk (s : State) : Bool :=
  match s.shuttle with
  | .idle => true
  | .offline => true
  | .fault _ _ _ => decide (s.load = .nothing)
  | _ => false

/-- A RESERVED slot READY with its owner removed; any other slot unchanged (R18). -/
def Slot.afterHallReset : Slot → Slot
  | .reserved b _ => .ready b
  | x => x

/-- The slots of a list with their reservations cleared (R18). -/
def State.clearReservations (s : State) : List SlotIx → State
  | [] => s
  | k :: ks => (s.setSlot k (s.slot k).afterHallReset).clearReservations ks

/-- A station at step 3 of a hall reset: its zone CLOSED with H absent, LOW to RUNNING, STARVED to NO_BAR (R69, R154). -/
def StationRec.afterHallReset (r : StationRec) : StationRec :=
  { r with
    zone := .closed
    handoff := none
    spindle :=
      match r.spindle with
      | .low u a => .running u a
      | .starved u => .noBar u
      | x => x }

/-- Step 3 of a hall reset for a list of stations. -/
def State.clearZones (s : State) : List Station → State
  | [] => s
  | i :: is => (s.modStation i StationRec.afterHallReset).clearZones is

/-- A station re-evaluated after a hall reset, passed over when DETACHED: LINK_LOST raised anew if LOST, then the bar
state evaluated, then the tote (R69, R181). -/
def State.reevaluate (s : State) (i : Station) : State :=
  if (s.station i).link = .detached then s
  else
    let s1 := if (s.station i).link.isLost then s.raiseCondition .linkLost (.station i) 0 else s
    let s2 :=
      match (s1.station i).spindle with
      | .unset => s1
      | .noBar _ => s1.stationEvaluate i
      | .starved _ => s1.stationEvaluate i
      | _ => s1.leadEvaluate i
    s2.toteEvaluate i

/-- The stations of a list re-evaluated one after another. -/
def State.reevaluateAll (s : State) : List Station → State
  | [] => s
  | i :: is => (s.reevaluate i).reevaluateAll is

/-- Steps 1 and 2 of a hall reset: the attention set emptied, RESERVED slots READY, the queue empty, the current work
ended, the reservations 0, and the shuttle IDLE or OFFLINE with the ping count 0 (R92, R117, R138). -/
def State.hallClear (s : State) : State :=
  let s1 := ((s.setAttention []).clearReservations allSlots).setQueue []
  let s2 := (s1.setPoolFigures { s1.pool with reserved := 0, outRes := 0 }).setDrive { s1.drive with unanswered := 0 }
  s2.enterRest

/-- An accepted hall reset in the steps of R197, its one dispatch evaluation included. -/
def State.hallReset (s : State) : State :=
  (((s.hallClear.clearZones allStations).reevaluateAll allStations).informDispatcher).settle

/-- HALL_RESET: refused BUSY unless IDLE, OFFLINE, or in FAULT with load NONE (R197). -/
def State.hallResetCommand (s : State) (w : Write) : State :=
  if w.lenOk [0] then
    if s.hallResetOk then s.hallReset.ok w [] else s.refuse w .busy 0
  else s.refuse w .length 0

/-! ### Station masks (R193) and STATION_RESTART (R197) -/

/-- The stations a mask names, in ascending number: station 1 in bit 0. -/
def maskStations (mask : BitVec 16) : List Station := allStations.filter fun i => mask.getLsbD i.val

/-- The refusal of a station mask: BAD_MASK for any of bits 12 to 15, NOT_PRESENT with the lowest named station that is
not present; the mask is payload field `field` (R193; notes/assumptions/10.md). -/
def State.maskRefusal (s : State) (mask : BitVec 16) (field : Nat) : Option (Reason × Nat) :=
  if mask.extractLsb' 12 4 ≠ 0 then some (.badMask, field)
  else ((maskStations mask).find? fun i => !(s.station i).present).map fun i => (.notPresent, stationNum i)

/-- The link after a restart by the supervisor: UP stays UP, LOST and DETACHED become DETACHED (R66). -/
def Link.afterSupervisorRestart : Link → Link
  | .up => .up
  | _ => .detached

/-- The stations of a list restarted by the supervisor one after another (R66, R197). -/
def State.restartAll (s : State) : List Station → State
  | [] => s
  | i :: is => (s.restart i (s.station i).link.afterSupervisorRestart).restartAll is

/-- STATION_RESTART: each station named restarted in ascending number, then one dispatch evaluation if any was called for
(R106, R193, R197; notes/assumptions/26.md). -/
def State.stationRestartCommand (s : State) (w : Write) : State :=
  if w.lenOk [2] then
    match s.maskRefusal (w.mask16 0) 1 with
    | some (r, k) => s.refuse w r k
    | none => ((s.restartAll (maskStations (w.mask16 0))).settle).ok w []
  else s.refuse w .length 0

end Sys2Proof.Machine
end

