-- ==== Sys2Proof/Machine/Supervisor.lean ====
section
/-! DEFINITION. The supervisor port's remaining commands (R191, R192): stock (R7 to R10), tables (R194), parameters
(R195), dispatch settings (R101, R102, R104), totes (R88 to R90), attention (R176 to R180) and mode (R196). -/

namespace Sys2Proof.Machine

/-! ### Stock commands (R7 to R10) -/

/-- The first field of STOCK_ENTER out of range, by its position (R7, R192). -/
def stockEnterRange (w : Write) : Option Nat :=
  if (slotOfNum (w.u8 0)).isNone then some 1
  else if w.u16 1 < 1 ∨ 1023 < w.u16 1 then some 2
  else if (shapeOfCode (w.u8 3)).isNone then some 3
  else if w.u16 4 < 20 ∨ 1000 < w.u16 4 then some 4
  else if w.u32 6 < 10000 ∨ 400000 < w.u32 6 then some 5
  else none

/-- A bar entered into a slot: the arrival counter advances and stamps it, a tag is allocated, the slot becomes READY and
the bar is offered to the waiting jobs (R2, R4, R7). -/
def State.enterStock (s : State) (k : SlotIx) (stock : Stock) (length : Nat) : State :=
  let tag := s.freshTag
  let stamp := sat32 (s.arrival + 1)
  let s1 : State := { s with arrival := stamp, tagCounter := tag }
  (s1.setSlot k (.ready ⟨tag, stock, length, stamp⟩)).offer k none

/-- STOCK_ENTER: refused RANGE or SLOT_BUSY, otherwise entered; DATA with tag and arrival stamp (R7). -/
def State.stockEnterCommand (s : State) (w : Write) : State :=
  if w.lenOk [10] then
    match stockEnterRange w, slotOfNum (w.u8 0), shapeOfCode (w.u8 3) with
    | some f, _, _ => s.refuse w .range f
    | none, some k, some sh =>
      if s.slot k = .empty then
        let s1 := s.enterStock k ⟨w.u16 1, sh, w.u16 4⟩ (w.u32 6)
        s1.settle.data w (nat16 s1.tagCounter ++ nat32 s1.arrival)
      else s.refuse w .slotBusy 0
    | none, _, _ => s.refuse w .range 1
  else s.refuse w .length 0

/-- A forced removal from a slot RESERVED by queued job `n`: the job's slot field absent, the bar discarded and the slot
EMPTY, then the job selects anew (R8). -/
def State.forceRemove (s : State) (k : SlotIx) (n : Nat) : State :=
  let s1 := (s.modQueued n fun j => { j with slot := none }).setSlot k .empty
  match s1.queuedJob n with
  | some j => s1.select j.station
  | none => s1

/-- STOCK_REMOVE, by the table of R8; DATA with the tag removed. R198 gives FORCE the values 0 and 1 and no rule places
that check: a FORCE value that is neither is refused RANGE with index 2, after the slot number has been found in its range
and before the slot's state is looked at. DESIGN CHOICE (unsafe): notes/assumptions/32.md. -/
def State.stockRemoveCommand (s : State) (w : Write) : State :=
  if w.lenOk [2] then
    match slotOfNum (w.u8 0) with
    | none => s.refuse w .range 1
    | some k =>
      if 1 < w.u8 1 then s.refuse w .range 2
      else
        match s.slot k with
        | .empty => s.refuse w .slotEmpty 0
        | .ready b => (s.setSlot k .empty).data w (nat16 b.tag)
        | .reserved b n =>
          if w.u8 1 = 1 ∧ (s.queuedJob n).isSome then ((s.forceRemove k n).settle).data w (nat16 b.tag)
          else s.refuse w .slotBusy 0
        | .out _ => s.refuse w .slotBusy 0
        | .blocked (some b) => (s.setSlot k (.blocked none)).data w (nat16 b.tag)
        | .blocked none => s.refuse w .slotEmpty 0
  else s.refuse w .length 0

/-- SLOT_BLOCK (R9). -/
def State.slotBlockCommand (s : State) (w : Write) : State :=
  if w.lenOk [1] then
    match slotOfNum (w.u8 0) with
    | none => s.refuse w .range 1
    | some k =>
      match s.slot k with
      | .empty => (s.setSlot k (.blocked none)).ok w []
      | .ready b => (s.setSlot k (.blocked (some b))).ok w []
      | .blocked _ => s.ok w []
      | .reserved _ _ => s.refuse w .slotBusy 0
      | .out _ => s.refuse w .slotBusy 0
  else s.refuse w .length 0

/-- SLOT_UNBLOCK (R10). -/
def State.slotUnblockCommand (s : State) (w : Write) : State :=
  if w.lenOk [1] then
    match slotOfNum (w.u8 0) with
    | none => s.refuse w .range 1
    | some k =>
      match s.slot k with
      | .blocked (some b) => (((s.setSlot k (.ready b)).offer k none).settle).ok w []
      | .blocked none => (s.setSlot k .empty).ok w []
      | _ => s.refuse w .wrongState 0
  else s.refuse w .length 0

/-! ### Table cursor (R194) -/

/-- TABLE_CURSOR: table and index checked, then both set. -/
def State.tableCursorCommand (s : State) (w : Write) : State :=
  if w.lenOk [3] then
    match tableOfCode (w.u8 0) with
    | none => s.refuse w .range 1
    | some t =>
      if t.indexOk (w.u16 1) then
        (s.setSupervisor { s.supervisor with cursorTable := t, cursorIndex := w.u16 1 }).ok w []
      else s.refuse w .range 2
  else s.refuse w .length 0

/-- TABLE_READ: DATA with table, index, entry kind and entry; the index advances, and stays at END. -/
def State.tableReadCommand (s : State) (w : Write) : State :=
  if w.lenOk [0] then
    let t := s.supervisor.cursorTable
    let k := s.supervisor.cursorIndex
    let e := s.tableEntry t k
    (s.setSupervisor { s.supervisor with cursorIndex := if e.1 = 0 then k else k + 1 }).data w
      ([nat8 t.code] ++ nat16 k ++ [nat8 e.1] ++ e.2)
  else s.refuse w .length 0

/-! ### Parameters (R195) -/

/-- The value of a hall parameter; `none` for an identifier not listed. -/
def State.hallParam (s : State) (id : Nat) : Option Nat :=
  match id with
  | 1 => some (match s.params.pickRule with | .oldestFirst => 0 | .shortestFirst => 1)
  | 2 => some s.params.lengthTol
  | 3 => some s.params.advanceTol
  | 4 => some s.params.jobTime
  | 5 => some s.params.linkTimeout
  | 6 => some s.params.resHold
  | 7 => some s.pool.outCap
  | 8 => some s.params.travelTimeout
  | 9 => some s.params.handlingTimeout
  | 10 => some s.params.barHandoff
  | 11 => some s.params.toteHandoff
  | 12 => some s.params.zoneWait
  | 13 => some s.params.zoneBackoff
  | _ => none

/-- The range of a hall parameter (R195). -/
def hallParamRange (id : Nat) : Nat × Nat :=
  match id with
  | 1 => (0, 1)
  | 2 => (0, 5000)
  | 3 => (0, 500)
  | 4 => (0, 3000)
  | 5 => (20, 200)
  | 6 => (100, 36000)
  | 7 => (1, 16)
  | 8 => (100, 6000)
  | 9 => (50, 3000)
  | 10 => (10, 600)
  | 11 => (10, 600)
  | 12 => (50, 3000)
  | _ => (10, 6000)

/-- A hall parameter set; O_c is a pool figure, whose change can end OUTBOUND_FULL and informs the dispatcher (R91). -/
def State.setHallParam (s : State) (id v : Nat) : State :=
  match id with
  | 1 => s.setParams { s.params with pickRule := if v = 0 then .oldestFirst else .shortestFirst }
  | 2 => s.setParams { s.params with lengthTol := v }
  | 3 => s.setParams { s.params with advanceTol := v }
  | 4 => s.setParams { s.params with jobTime := v }
  | 5 => s.setParams { s.params with linkTimeout := v }
  | 6 => s.setParams { s.params with resHold := v }
  | 7 => s.setPool { s.pool with outCap := v }
  | 8 => s.setParams { s.params with travelTimeout := v }
  | 9 => s.setParams { s.params with handlingTimeout := v }
  | 10 => s.setParams { s.params with barHandoff := v }
  | 11 => s.setParams { s.params with toteHandoff := v }
  | 12 => s.setParams { s.params with zoneWait := v }
  | 13 => s.setParams { s.params with zoneBackoff := v }
  | _ => s

/-- What falls due at once by a changed parameter: stations silent for longer than a new link timeout, and the release of
those LOST for a new reservation hold time (R49, R51). Every other parameter applies from its next use (R195). -/
def State.dueAtOnce (s : State) (id : Nat) : State :=
  match id with
  | 5 => s.linksDueNow
  | 6 => s.resHoldsDueNow
  | _ => s

/-- The value is one the parameter takes: in its range, and for O_c at least O_f + O_r (R91, R195). -/
def State.hallValueOk (s : State) (id v : Nat) : Bool :=
  decide ((hallParamRange id).1 ≤ v) && decide (v ≤ (hallParamRange id).2) &&
    (!decide (id = 7) || decide (s.pool.outFull + s.pool.outRes ≤ v))

/-- HALL_PARAM: a read at LEN 1, a write at LEN 5 (R195), with the expiries that the new value makes due (R49, R51). -/
def State.hallParamCommand (s : State) (w : Write) : State :=
  if w.lenOk [1, 5] then
    match s.hallParam (w.u8 0) with
    | none => s.refuse w .range 1
    | some v =>
      if w.len = 1 then s.data w ([nat8 (w.u8 0)] ++ nat32 v)
      else if s.hallValueOk (w.u8 0) (w.u32 1) then ((s.setHallParam (w.u8 0) (w.u32 1)).settle.dueAtOnce (w.u8 0)).ok w []
      else s.refuse w .range 2
  else s.refuse w .length 0

/-- The present flag of a station set or cleared (R47): clearing is refused BUSY unless the link is DETACHED and the
station has no job, and takes the station out of the hold mask (R102). -/
def State.setPresent (s : State) (i : Station) (v : Nat) (w : Write) : State :=
  if v = 1 then (s.modStation i fun r => { r with present := true }).ok w []
  else if (s.station i).link = .detached ∧ !s.hasJob true i ∧ !s.hasJob false i then
    ((s.modStation i fun r => { r with present := false }).setArbiter { s.arbiter with
      holdMask := s.arbiter.holdMask &&& ~~~(BitVec.twoPow 12 i.val) }).ok w []
  else s.refuse w .busy 0

/-- STATION_PARAM: a read at LEN 2, a write at LEN 6; identifier 1 is T_s, 2 the present flag (R195). -/
def State.stationParamCommand (s : State) (w : Write) : State :=
  if w.lenOk [2, 6] then
    match stationOfNum (w.u8 0) with
    | none => s.refuse w .range 1
    | some i =>
      match w.u8 1 with
      | 1 =>
        if w.len = 2 then s.data w ([nat8 (w.u8 0), 1] ++ nat32 (s.station i).travel)
        else if 10 ≤ w.u32 2 ∧ w.u32 2 ≤ 3000 then (s.modStation i fun r => { r with travel := w.u32 2 }).ok w []
        else s.refuse w .range 3
      | 2 =>
        if w.len = 2 then s.data w ([nat8 (w.u8 0), 2] ++ nat32 (if (s.station i).present then 1 else 0))
        else if w.u32 2 ≤ 1 then s.setPresent i (w.u32 2) w
        else s.refuse w .range 3
      | _ => s.refuse w .range 2
  else s.refuse w .length 0

/-! ### Dispatch settings (R101, R102, R104) -/

/-- The first field of ARBITER_ORDER at fault: a bay code other than 1 to 3, a bay named before, or flags with any of
bits 3 to 7 set (R104, R198; notes/assumptions/11.md). -/
def arbiterRange (w : Write) : Option Nat :=
  if (bayOfCode (w.u8 0)).isNone then some 1
  else if (bayOfCode (w.u8 1)).isNone ∨ w.u8 1 = w.u8 0 then some 2
  else if (bayOfCode (w.u8 2)).isNone ∨ w.u8 2 = w.u8 0 ∨ w.u8 2 = w.u8 1 then some 3
  else if 8 ≤ w.u8 3 then some 4
  else none

/-- ARBITER_ORDER: the bay order and the rotation flags set; pointers and jobs unchanged (R104). -/
def State.arbiterCommand (s : State) (w : Write) : State :=
  if w.lenOk [4] then
    match arbiterRange w with
    | some f => s.refuse w .range f
    | none =>
      let a := s.arbiter
      (s.setArbiter { a with
        first := (bayOfCode (w.u8 0)).getD .A
        second := (bayOfCode (w.u8 1)).getD .B
        third := (bayOfCode (w.u8 2)).getD .C
        bayA := { a.bayA with rotate := (w.u8 3).testBit 0 }
        bayB := { a.bayB with rotate := (w.u8 3).testBit 1 }
        bayC := { a.bayC with rotate := (w.u8 3).testBit 2 } }).ok w []
  else s.refuse w .length 0

/-- HALL_HOLD: the level set; a level that blocks fewer classes informs the dispatcher (R101, R106). -/
def State.hallHoldCommand (s : State) (w : Write) : State :=
  if w.lenOk [1] then
    match holdOfCode (w.u8 0) with
    | none => s.refuse w .range 1
    | some l =>
      let s1 := s.setArbiter { s.arbiter with hold := l }
      (if l.code < s.arbiter.hold.code then s1.informDispatcher else s1).settle.ok w []
  else s.refuse w .length 0

/-- The twelve station bits of a mask that has passed R193. -/
def stationBits (mask : BitVec 16) : BitVec 12 := mask.extractLsb' 0 12

/-- HOLD adds the named stations to the hold mask; RELEASE removes them, and informs the dispatcher if it removes any
(R102, R106). -/
def State.applyHold (s : State) (action : Nat) (mask : BitVec 16) : State :=
  if action = 1 then s.setArbiter { s.arbiter with holdMask := s.arbiter.holdMask ||| stationBits mask }
  else
    let s1 := s.setArbiter { s.arbiter with holdMask := s.arbiter.holdMask &&& ~~~(stationBits mask) }
    if s.arbiter.holdMask &&& stationBits mask = 0 then s1 else s1.informDispatcher

/-- STATION_HOLD: the action checked before the mask (R193); OK with the hold mask after the change (R102). -/
def State.stationHoldCommand (s : State) (w : Write) : State :=
  if w.lenOk [3] then
    if w.u8 0 < 1 ∨ 2 < w.u8 0 then s.refuse w .range 1
    else
      match s.maskRefusal (w.mask16 1) 2 with
      | some (r, k) => s.refuse w r k
      | none =>
        let s1 := (s.applyHold (w.u8 0) (w.mask16 1)).settle
        s1.ok w (nat16 s1.arbiter.holdMask.toNat)
  else s.refuse w .length 0

/-! ### Tote commands (R88 to R90) -/

/-- TOTE_ADD (R88). -/
def State.toteAddCommand (s : State) (w : Write) : State :=
  if w.lenOk [2] then
    if s.supervisor.mode = .production then s.refuse w .wrongMode 0
    else
      let n := w.u16 0
      if n < 1 ∨ 64 < n ∨ 64 < s.pool.population + n then s.refuse w .range 1
      else
        let s1 := (s.setPool { s.pool with population := s.pool.population + n, empties := s.pool.empties + n }).settle
        s1.data w s1.pool.bytes
  else s.refuse w .length 0

/-- TOTE_WITHDRAW (R88). -/
def State.toteWithdrawCommand (s : State) (w : Write) : State :=
  if w.lenOk [2] then
    if s.supervisor.mode = .production then s.refuse w .wrongMode 0
    else
      let n := w.u16 0
      if n < 1 ∨ 64 < n ∨ s.pool.free < n then s.refuse w .range 1
      else
        let s1 := (s.setPool { s.pool with population := s.pool.population - n, empties := s.pool.empties - n }).settle
        s1.data w s1.pool.bytes
  else s.refuse w .length 0

/-- OUTBOUND_CLEARED, in either mode (R90). -/
def State.outboundClearedCommand (s : State) (w : Write) : State :=
  if w.lenOk [2] then
    let n := w.u16 0
    if n < 1 ∨ 16 < n ∨ s.pool.outFull < n then s.refuse w .range 1
    else
      let s1 := (s.setPool { s.pool with outFull := s.pool.outFull - n, empties := s.pool.empties + n }).settle
      s1.data w s1.pool.bytes
  else s.refuse w .length 0

/-- The count c of STATION_TOTE fits: 0..Q − 1 with a setup, 0 without (R89). -/
def StationRec.countFits (r : StationRec) (c : Nat) : Bool :=
  match r.spindle.setup? with
  | some u => decide (c < u.capacity)
  | none => decide (c = 0)

/-- A tote declared at a station (R89): off the stand, its queued TOTE_PLACE removed, FILLING with count c, TOTE_RELEASE,
and the tote evaluated. -/
def State.declareTote (s : State) (i : Station) (c : Nat) : State :=
  let s1 := s.setPool { s.pool with empties := s.pool.empties - 1 }
  let s2 : State :=
    match s1.queuedOf false i with
    | some j => if j.kind = JobKind.place then s1.removeQueued j else s1
    | none => s1
  ((s2.setTote i (.filling c)).notify i Frame.toteRelease).toteEvaluate i

/-- STATION_TOTE, its checks in the order of R89; DATA with the pool figures. -/
def State.stationToteCommand (s : State) (w : Write) : State :=
  if w.lenOk [3] then
    if s.supervisor.mode = .production then s.refuse w .wrongMode 0
    else
      match stationOfNum (w.u8 0) with
      | none => s.refuse w .range 1
      | some i =>
        if (s.station i).tote ≠ .noTote then s.refuse w .wrongState 0
        else if (s.station i).countFits (w.u16 1) then
          if s.pool.free = 0 then s.refuse w .noEmpty 0
          else
            let s1 := (s.declareTote i (w.u16 1)).settle
            s1.data w s1.pool.bytes
        else s.refuse w .range 2
  else s.refuse w .length 0

/-! ### Attention (R176 to R180) -/

/-- The first readable record in read order (R176). -/
def State.firstReadable (s : State) : Option AttRec := s.attention.find? (AttRec.readable s.enable)

/-- ATTENTION_READ: the first readable record is answered; an event is removed, a condition marked reported; without one
the cause NONE is answered (R176). -/
def State.attentionReadCommand (s : State) (w : Write) : State :=
  if w.lenOk [0] then
    match s.firstReadable with
    | none => s.data w [0]
    | some r =>
      (if r.cause.isCondition then s.setAttention (attInsert { r with reported := true } s.attention)
       else s.endCondition r.cause r.scope).data w
        ([nat8 r.cause.priority, nat8 r.scope.num] ++ nat16 r.detail ++ [nat8 r.count] ++ bytes32 r.last ++
          [if r.cause.isCondition then 2 else 1])
  else s.refuse w .length 0

/-- ATTENTION_CLEAR_ALL: every event record removed and every condition record marked reported (R177). -/
def State.attentionClearCommand (s : State) (w : Write) : State :=
  if w.lenOk [0] then
    (s.setAttention ((s.attention.filter fun r => r.cause.isCondition).map fun r => { r with reported := true })).ok w []
  else s.refuse w .length 0

/-- ATTENTION_ENABLE: the mask replaced; any of bits 12 to 15 refused RANGE; OK with the new mask (R178). -/
def State.attentionEnableCommand (s : State) (w : Write) : State :=
  if w.lenOk [2] then
    if (w.mask16 0).extractLsb' 12 4 ≠ 0 then s.refuse w .range 1
    else ({ s with enable := stationBits (w.mask16 0) } : State).ok w (nat16 (w.u16 0))
  else s.refuse w .length 0

/-- A record in ATTENTION_SUMMARY: cause, scope, occurrence count, mark (R180, R198). -/
def AttRec.summary (r : AttRec) : List Byte :=
  [nat8 r.cause.priority, nat8 r.scope.num, nat8 r.count, nat8 r.mark]

/-- ATTENTION_SUMMARY: the mask, the number of records, the level of nATTN, and every record in read order (R180). -/
def State.attentionSummaryCommand (s : State) (w : Write) : State :=
  if w.lenOk [0] then
    s.data w (nat16 s.enable.toNat ++ [nat8 s.attention.length, flag8 s.nAttn] ++ s.attention.flatMap AttRec.summary)
  else s.refuse w .length 0

/-! ### MODE (R196) -/

/-- MODE PRODUCTION: from COMMISSION the mode is set and the dispatcher informed; in PRODUCTION nothing changes. -/
def State.toProduction (s : State) : State :=
  if s.supervisor.mode = .production then s
  else (s.setSupervisor { s.supervisor with mode := .production }).informDispatcher

/-- MODE: 1 COMMISSION, refused BUSY from PRODUCTION while a job is current; 2 PRODUCTION; OK with the mode in force. -/
def State.modeCommand (s : State) (w : Write) : State :=
  if w.lenOk [1] then
    match w.u8 0 with
    | 1 =>
      if s.supervisor.mode = .production ∧ s.jobCurrent then s.refuse w .busy 0
      else (s.setSupervisor { s.supervisor with mode := .commission }).ok w [nat8 Mode.commission.code]
    | 2 => s.toProduction.settle.ok w [nat8 Mode.production.code]
    | _ => s.refuse w .range 1
  else s.refuse w .length 0

/-! ### Transactions (R191, R192) -/

/-- The command byte of a write transaction: any unread answer is discarded and ANS_RDY falls. MISO sends FFh with it and
with each of the `clocked` bytes after it, at most TAG and one byte of LEN where nCS then rises and no command is taken. A
first byte of 00h starts a read transaction and discards nothing (R191). -/
def State.commandByteArrives (s : State) (code : Byte) (clocked : Nat) : State :=
  if code = 0 then s
  else s.setSupervisor { s.supervisor with answer := none, miso := List.replicate (1 + clocked) 0xFF#8 }

/-- A read transaction with `n` bytes clocked after its first byte: FFh with the first, then the answer frame from its first
byte, removed when its last byte has been clocked out; FFh where no answer is waiting (R191). That MISO sends FFh with the
first byte also while an answer waits, and beyond the answer's end: DEDUCED, notes/assumptions/22.md. -/
def State.readAnswer (s : State) (n : Nat) : State :=
  match s.supervisor.answer with
  | none => s.setSupervisor { s.supervisor with miso := List.replicate (1 + n) 0xFF#8 }
  | some a =>
    let frame := a.bytes
    s.setSupervisor { s.supervisor with
      miso := 0xFF#8 :: frame.take n ++ List.replicate (n - frame.length) 0xFF#8
      answer := if frame.length ≤ n then none else some a }

end Sys2Proof.Machine
end

