-- ==== Sys2Proof/Machine/Ports.lean ====
section
/-! DEFINITION. The receivers of the serial ports byte by byte (R182, R183): hunting, gathering, the checks of a gathered
frame, discards and their count, and handing a valid frame on to the station record or the sequencer. -/

namespace Sys2Proof.Machine

/-- What a byte brings about at a receiver (R183). -/
inductive RxEvent where
  | none
  | discard
  | frame (type : Byte) (payload : List Byte)
deriving DecidableEq, Repr

/-- A frame gathered whole, from the bytes after SYNC (LEN, TYPE, PAYLOAD and the CRC low byte first): discarded when the
CRC does not match (R183). -/
def checkFrame (bytes : List Byte) : RxEvent :=
  match bytes with
  | len :: type :: rest =>
    let payload := rest.take len.toNat
    if rest.drop len.toNat = bytes16 (crc16 (len :: type :: payload)) then .frame type payload else .discard
  | _ => .discard

/-- One byte taken by a receiver at a time (R183): in HUNT only SYNC starts a frame; in GATHER a LEN above 24 discards at
once, and with LEN + 4 bytes after SYNC the frame is gathered and the receiver hunts again. -/
def Receiver.take (r : Receiver) (b : Byte) (now : Time) : Receiver × RxEvent :=
  match r with
  | .hunt => if b = syncByte then (.gather [] now, .none) else (.hunt, .none)
  | .gather bytes _ =>
    match bytes ++ [b] with
    | [] => (.hunt, .none)
    | len :: rest =>
      if 24 < len.toNat then (.hunt, .discard)
      else if rest.length + 1 = len.toNat + 4 then (.hunt, checkFrame (len :: rest))
      else (.gather (len :: rest) now, .none)

/-- The receiver of a port. -/
def State.receiver (s : State) : Port → Receiver
  | .station i => (s.station i).rx
  | .drive => s.drive.rx

/-- The receiver of a port replaced. -/
def State.setReceiver (s : State) (p : Port) (r : Receiver) : State :=
  match p with
  | .station i => s.modStation i fun q => { q with rx := r }
  | .drive => s.setDrive { s.drive with rx := r }

/-- A port counts its discarded frames, except a station port whose present flag is clear (R47, R175, R183). -/
def State.counts (s : State) : Port → Bool
  | .station i => (s.station i).present
  | .drive => true

/-- A frame discarded at a port: one error counted, without an answer (R183). -/
def State.discardFrame (s : State) (p : Port) : State := if s.counts p then s.countError p else s

/-- The drive's answers handed on to the sequencer, with the dispatch evaluation they give rise to (R106, R121, R125). -/
def State.drivePortDone (s : State) (tag : Byte) : State := (s.huntDrive.driveDone tag.toNat).settle

/-- A FAULT frame; with code 0 it is discarded as malformed (R125). -/
def State.drivePortFault (s : State) (tag code : Byte) : State :=
  if code = 0 then s.huntDrive.discardFrame .drive else s.huntDrive.driveFault tag.toNat code.toNat

/-- A PING frame of the drive. -/
def State.drivePortPing (s : State) (tag : Byte) : State := (s.huntDrive.drivePing tag.toNat).settle

/-- A valid frame handed on (R183): the effect of the command it spells; a command that is no frame has none here. -/
def State.handOn (s : State) : Instr → State
  | .hello i => s.helloRequest i
  | .setup i f => s.setupRequest i f
  | .load i m => s.loadRequest i m
  | .partOff i c sc a => s.partOffRequest i c sc a
  | .barEnd i r => s.barEndRequest i r
  | .zoneGrant i w => s.grantRequest i w
  | .zoneClose i => s.closeRequest i
  | .status i p => s.statusRequest i p
  | .detach i => s.detachRequest i
  | .unknownType i t => s.unknownTypeRequest i t
  | .done t => s.drivePortDone t
  | .fault t c => s.drivePortFault t c
  | .ping t => s.drivePortPing t
  | _ => s

/-- One byte arriving at a port: the receiver takes it; a discard is counted, a gathered frame with a good CRC is checked
against its TYPE and handed on (R183). -/
def State.receiveByte (s : State) (p : Port) (b : Byte) : State :=
  let r := (s.receiver p).take b s.clock
  let s1 := s.setReceiver p r.1
  match r.2 with
  | .none => s1
  | .discard => s1.discardFrame p
  | .frame type payload =>
    match decodeFrame p type payload with
    | some c => s1.handOn c
    | none => s1.discardFrame p

/-- Bytes arriving at a port one after another. -/
def State.receiveBytes (s : State) (p : Port) : List Byte → State
  | [] => s
  | b :: bs => (s.receiveByte p b).receiveBytes p bs

/-- A frame is being gathered at a port, and more than 2 ds have passed since its last byte (R183). -/
def State.interByteDue (s : State) (p : Port) : Bool :=
  match s.receiver p with
  | .gather _ last => decide (2 < elapsed s.clock last)
  | .hunt => false

/-- The frame being gathered at a port discarded and counted, the receiver back in HUNT; in HUNT nothing (R183). -/
def State.dropGathered (s : State) (p : Port) : State :=
  match s.receiver p with
  | .gather _ _ => (s.setReceiver p .hunt).discardFrame p
  | .hunt => s

end Sys2Proof.Machine
end

