-- ==== Sys2Proof/Machine/DriveCommands.lean ====
section
/-! DEFINITION. The meanings of the drive's answers and of the changes of DRV_RDY (R120, R121, R124, R125). -/

namespace Sys2Proof.Machine

/-- DONE (R124, R125). -/
def execDone (tag : Byte) (s : State) : Host.Outcome State Fault Refusal :=
  .next (s.drivePortDone tag)

/-- FAULT (R125, R156). -/
def execFault (tag code : Byte) (s : State) : Host.Outcome State Fault Refusal :=
  .next (s.drivePortFault tag code)

/-- PING answered (R121). -/
def execPing (tag : Byte) (s : State) : Host.Outcome State Fault Refusal :=
  .next (s.drivePortPing tag)

/-- DRV_RDY rises (R120). -/
def execDrvRdyRise (s : State) : Host.Outcome State Fault Refusal :=
  .next (s.readyRise.settle)

/-- DRV_RDY falls (R120). -/
def execDrvRdyFall (s : State) : Host.Outcome State Fault Refusal :=
  .next (s.readyFall)

end Sys2Proof.Machine
end

