-- ==== Sys2Proof/Machine/ExpiryCommands.lean ====
section
/-! DEFINITION. The meanings of the expiries and of the power-on reset. -/

namespace Sys2Proof.Machine

/-- Power-up, or a low level on nRESET (R18, R68, R92, R116, R138, R154, R181, R190). -/
def execPowerOnReset (s : State) : Host.Outcome State Fault Refusal :=
  .next (s.powerOn)

/-- A PING falls due (R121). -/
def execPingDue (s : State) : Host.Outcome State Fault Refusal :=
  .next (s.sendPing)

/-- The deadline of the move in flight is reached (R124). -/
def execMoveDeadline (s : State) : Host.Outcome State Fault Refusal :=
  .next (s.expireMove)

/-- The link timeout of a station (R49). -/
def execLinkTimeout (i : Station) (s : State) : Host.Outcome State Fault Refusal :=
  .next (s.expireLink i)

/-- The reservation hold of a LOST station (R51). -/
def execReservationHold (i : Station) (s : State) : Host.Outcome State Fault Refusal :=
  .next (s.expireResHold i)

/-- The backoff time of a queued job (R103). -/
def execBackoffExpiry (job : Nat) (s : State) : Host.Outcome State Fault Refusal :=
  .next (s.expireBackoff job)

/-- The open-until of a zone (R146). -/
def execOpenUntilExpiry (i : Station) (s : State) : Host.Outcome State Fault Refusal :=
  .next (s.expireOpen i)

/-- The zone wait deadline (R148, R149). -/
def execZoneWaitDeadline (s : State) : Host.Outcome State Fault Refusal :=
  .next (s.expireZoneWait)

end Sys2Proof.Machine
end

