-- ==== Sys2Proof/Machine/PortCommands.lean ====
section
/-! DEFINITION. The meanings of what happens below the frames at a serial port (R183): bytes that make no valid frame, a pause between bytes, a missing stop bit. -/

namespace Sys2Proof.Machine

/-- Bytes received at a port one after another, as the receiver takes them (R183; notes/assumptions/19.md). -/
def execFrameDiscard (p : Port) (bytes : List Byte) (s : State) : Host.Outcome State Fault Refusal :=
  .next (s.receiveBytes p bytes)

/-- More than 2 ds since the last byte in GATHER (R183); nothing where that is not so. -/
def execInterByteTimeout (p : Port) (s : State) : Host.Outcome State Fault Refusal :=
  .next (if s.interByteDue p then s.dropGathered p else s)

/-- A byte with a missing stop bit: in GATHER the frame gathered so far is discarded; in HUNT it is no SYNC (R183). -/
def execMissingStopBit (p : Port) (s : State) : Host.Outcome State Fault Refusal :=
  .next (s.dropGathered p)

end Sys2Proof.Machine
end

