-- ==== Sys2Proof/Machine/StationCommands.lean ====
section
/-! DEFINITION. The meanings of the ten requests of a station (R184, R186). -/

namespace Sys2Proof.Machine

/-- HELLO (R48). -/
def execHello (i : Station) (s : State) : Host.Outcome State Fault Refusal :=
  .next (s.helloRequest i)

/-- SETUP (R57, R58). -/
def execSetup (i : Station) (f : SetupFields) (s : State) : Host.Outcome State Fault Refusal :=
  .next (s.setupRequest i f)

/-- LOAD (R23, R24, R59). -/
def execLoad (i : Station) (measured : Option (BitVec 32)) (s : State) : Host.Outcome State Fault Refusal :=
  .next (s.loadRequest i measured)

/-- PART_OFF (R25, R26). -/
def execPartOff (i : Station) (count : BitVec 16) (scrap : Byte) (advance : Option (BitVec 32)) (s : State) : Host.Outcome State Fault Refusal :=
  .next (s.partOffRequest i count scrap advance)

/-- BAR_END (R60, R61). -/
def execBarEnd (i : Station) (remnant : Option (BitVec 32)) (s : State) : Host.Outcome State Fault Refusal :=
  .next (s.barEndRequest i remnant)

/-- ZONE_GRANT (R142). -/
def execZoneGrant (i : Station) (window : BitVec 16) (s : State) : Host.Outcome State Fault Refusal :=
  .next (s.grantRequest i window)

/-- ZONE_CLOSE (R145). -/
def execZoneClose (i : Station) (s : State) : Host.Outcome State Fault Refusal :=
  .next (s.closeRequest i)

/-- STATUS (R188). -/
def execStatus (i : Station) (page : Option Byte) (s : State) : Host.Outcome State Fault Refusal :=
  .next (s.statusRequest i page)

/-- DETACH (R66). -/
def execDetach (i : Station) (s : State) : Host.Outcome State Fault Refusal :=
  .next (s.detachRequest i)

/-- A valid frame of a TYPE that is no request (R186). -/
def execUnknownType (i : Station) (type : Byte) (s : State) : Host.Outcome State Fault Refusal :=
  .next (s.unknownTypeRequest i type)

end Sys2Proof.Machine
end

