-- ==== Sys2Proof/Machine/SupervisorCommands.lean ====
section
/-! DEFINITION. The meanings of the transactions of the supervisor port (R191, R192, R198). Rows that share a command code do what the bytes of the transaction say (notes/assumptions/15.md). -/

namespace Sys2Proof.Machine

/-- The command byte of a write transaction, with the bytes clocked after it where no command follows (R191). -/
def execCommandByte (b : CommandByte) (s : State) : Host.Outcome State Fault Refusal :=
  .next (s.commandByteArrives b.code b.clocked)

/-- A read transaction with `clocked` bytes after its first (R191). -/
def execReadTransaction (clocked : Nat) (s : State) : Host.Outcome State Fault Refusal :=
  .next (s.readAnswer clocked)

/-- A command code the port does not know (R192). -/
def execUnknownCmd (_code : Byte) (w : Write) (s : State) : Host.Outcome State Fault Refusal :=
  .next (s.refuse w .unknownCmd 0)

/-- STOCK_ENTER (R7). -/
def execStockEnter (w : Write) (s : State) : Host.Outcome State Fault Refusal :=
  .next (s.stockEnterCommand w)

/-- STOCK_REMOVE (R8). -/
def execStockRemove (w : Write) (s : State) : Host.Outcome State Fault Refusal :=
  .next (s.stockRemoveCommand w)

/-- SLOT_BLOCK (R9). -/
def execSlotBlock (w : Write) (s : State) : Host.Outcome State Fault Refusal :=
  .next (s.slotBlockCommand w)

/-- SLOT_UNBLOCK (R10). -/
def execSlotUnblock (w : Write) (s : State) : Host.Outcome State Fault Refusal :=
  .next (s.slotUnblockCommand w)

/-- TABLE_CURSOR (R194). -/
def execTableCursor (w : Write) (s : State) : Host.Outcome State Fault Refusal :=
  .next (s.tableCursorCommand w)

/-- TABLE_READ (R194). -/
def execTableRead (w : Write) (s : State) : Host.Outcome State Fault Refusal :=
  .next (s.tableReadCommand w)

/-- HALL_PARAM without a value (R195). -/
def execHallParamRead (w : Write) (s : State) : Host.Outcome State Fault Refusal :=
  .next (s.hallParamCommand w)

/-- HALL_PARAM with a value (R195). -/
def execHallParamWrite (w : Write) (s : State) : Host.Outcome State Fault Refusal :=
  .next (s.hallParamCommand w)

/-- STATION_PARAM without a value (R195). -/
def execStationParamRead (w : Write) (s : State) : Host.Outcome State Fault Refusal :=
  .next (s.stationParamCommand w)

/-- STATION_PARAM with a value (R195). -/
def execStationParamWrite (w : Write) (s : State) : Host.Outcome State Fault Refusal :=
  .next (s.stationParamCommand w)

/-- ARBITER_ORDER (R104). -/
def execArbiterOrder (w : Write) (s : State) : Host.Outcome State Fault Refusal :=
  .next (s.arbiterCommand w)

/-- HALL_HOLD (R101). -/
def execHallHold (w : Write) (s : State) : Host.Outcome State Fault Refusal :=
  .next (s.hallHoldCommand w)

/-- STATION_HOLD with action HOLD (R102). -/
def execStationHold (w : Write) (s : State) : Host.Outcome State Fault Refusal :=
  .next (s.stationHoldCommand w)

/-- STATION_HOLD with action RELEASE (R102). -/
def execStationHoldRelease (w : Write) (s : State) : Host.Outcome State Fault Refusal :=
  .next (s.stationHoldCommand w)

/-- JOB_CANCEL (R110, R111). -/
def execJobCancel (w : Write) (s : State) : Host.Outcome State Fault Refusal :=
  .next (s.cancelCommand w)

/-- TOTE_ADD (R88). -/
def execToteAdd (w : Write) (s : State) : Host.Outcome State Fault Refusal :=
  .next (s.toteAddCommand w)

/-- TOTE_WITHDRAW (R88). -/
def execToteWithdraw (w : Write) (s : State) : Host.Outcome State Fault Refusal :=
  .next (s.toteWithdrawCommand w)

/-- OUTBOUND_CLEARED (R90). -/
def execOutboundCleared (w : Write) (s : State) : Host.Outcome State Fault Refusal :=
  .next (s.outboundClearedCommand w)

/-- STATION_TOTE (R89). -/
def execStationTote (w : Write) (s : State) : Host.Outcome State Fault Refusal :=
  .next (s.stationToteCommand w)

/-- RECOVER RETRY (R161). -/
def execRecoverRetry (w : Write) (s : State) : Host.Outcome State Fault Refusal :=
  .next (s.recoverCommand w)

/-- RECOVER RESUME (R162). -/
def execRecoverResume (w : Write) (s : State) : Host.Outcome State Fault Refusal :=
  .next (s.recoverCommand w)

/-- RECOVER RETURN (R164). -/
def execRecoverReturn (w : Write) (s : State) : Host.Outcome State Fault Refusal :=
  .next (s.recoverCommand w)

/-- RECOVER CLEAR (R166). -/
def execRecoverClear (w : Write) (s : State) : Host.Outcome State Fault Refusal :=
  .next (s.recoverCommand w)

/-- MANUAL_MOVE (R136). -/
def execManualMove (w : Write) (s : State) : Host.Outcome State Fault Refusal :=
  .next (s.manualCommand w)

/-- ATTENTION_READ (R176). -/
def execAttentionRead (w : Write) (s : State) : Host.Outcome State Fault Refusal :=
  .next (s.attentionReadCommand w)

/-- ATTENTION_CLEAR_ALL (R177). -/
def execAttentionClearAll (w : Write) (s : State) : Host.Outcome State Fault Refusal :=
  .next (s.attentionClearCommand w)

/-- ATTENTION_ENABLE (R178). -/
def execAttentionEnable (w : Write) (s : State) : Host.Outcome State Fault Refusal :=
  .next (s.attentionEnableCommand w)

/-- ATTENTION_SUMMARY (R180). -/
def execAttentionSummary (w : Write) (s : State) : Host.Outcome State Fault Refusal :=
  .next (s.attentionSummaryCommand w)

/-- MODE PRODUCTION (R196). -/
def execModeProduction (w : Write) (s : State) : Host.Outcome State Fault Refusal :=
  .next (s.modeCommand w)

/-- MODE COMMISSION (R196). -/
def execModeCommission (w : Write) (s : State) : Host.Outcome State Fault Refusal :=
  .next (s.modeCommand w)

/-- HALL_RESET (R197). -/
def execHallReset (w : Write) (s : State) : Host.Outcome State Fault Refusal :=
  .next (s.hallResetCommand w)

/-- STATION_RESTART (R197). -/
def execStationRestart (w : Write) (s : State) : Host.Outcome State Fault Refusal :=
  .next (s.stationRestartCommand w)

end Sys2Proof.Machine
end

