-- ==== Sys2Proof/Machine/Dispatch.lean ====
section
/-! DEFINITION. The meaning of every command: one arm per constructor of Instr. -/

namespace Sys2Proof.Machine

/-- The effect of a command on everything but the queue of waiting commands. -/
def exec (i : Instr) (s : State) : Host.Outcome State Fault Refusal :=
  match i with
  | .powerOnReset => Sys2Proof.Machine.execPowerOnReset s
  | .hello st => Sys2Proof.Machine.execHello st s
  | .setup st f => Sys2Proof.Machine.execSetup st f s
  | .load st measured => Sys2Proof.Machine.execLoad st measured s
  | .partOff st count scrap advance => Sys2Proof.Machine.execPartOff st count scrap advance s
  | .barEnd st remnant => Sys2Proof.Machine.execBarEnd st remnant s
  | .zoneGrant st window => Sys2Proof.Machine.execZoneGrant st window s
  | .zoneClose st => Sys2Proof.Machine.execZoneClose st s
  | .status st page => Sys2Proof.Machine.execStatus st page s
  | .detach st => Sys2Proof.Machine.execDetach st s
  | .unknownType st type => Sys2Proof.Machine.execUnknownType st type s
  | .frameDiscard p bytes => Sys2Proof.Machine.execFrameDiscard p bytes s
  | .interByteTimeout p => Sys2Proof.Machine.execInterByteTimeout p s
  | .done tag => Sys2Proof.Machine.execDone tag s
  | .fault tag code => Sys2Proof.Machine.execFault tag code s
  | .ping tag => Sys2Proof.Machine.execPing tag s
  | .drvRdyRise => Sys2Proof.Machine.execDrvRdyRise s
  | .drvRdyFall => Sys2Proof.Machine.execDrvRdyFall s
  | .pingDue => Sys2Proof.Machine.execPingDue s
  | .moveDeadline => Sys2Proof.Machine.execMoveDeadline s
  | .linkTimeout st => Sys2Proof.Machine.execLinkTimeout st s
  | .reservationHold st => Sys2Proof.Machine.execReservationHold st s
  | .backoffExpiry job => Sys2Proof.Machine.execBackoffExpiry job s
  | .openUntilExpiry st => Sys2Proof.Machine.execOpenUntilExpiry st s
  | .zoneWaitDeadline => Sys2Proof.Machine.execZoneWaitDeadline s
  | .commandByte b => Sys2Proof.Machine.execCommandByte b s
  | .readTransaction clocked => Sys2Proof.Machine.execReadTransaction clocked s
  | .unknownCmd code w => Sys2Proof.Machine.execUnknownCmd code w s
  | .stockEnter w => Sys2Proof.Machine.execStockEnter w s
  | .stockRemove w => Sys2Proof.Machine.execStockRemove w s
  | .slotBlock w => Sys2Proof.Machine.execSlotBlock w s
  | .slotUnblock w => Sys2Proof.Machine.execSlotUnblock w s
  | .tableCursor w => Sys2Proof.Machine.execTableCursor w s
  | .tableRead w => Sys2Proof.Machine.execTableRead w s
  | .hallParamRead w => Sys2Proof.Machine.execHallParamRead w s
  | .hallParamWrite w => Sys2Proof.Machine.execHallParamWrite w s
  | .stationParamRead w => Sys2Proof.Machine.execStationParamRead w s
  | .stationParamWrite w => Sys2Proof.Machine.execStationParamWrite w s
  | .arbiterOrder w => Sys2Proof.Machine.execArbiterOrder w s
  | .hallHold w => Sys2Proof.Machine.execHallHold w s
  | .stationHold w => Sys2Proof.Machine.execStationHold w s
  | .stationHoldRelease w => Sys2Proof.Machine.execStationHoldRelease w s
  | .jobCancel w => Sys2Proof.Machine.execJobCancel w s
  | .toteAdd w => Sys2Proof.Machine.execToteAdd w s
  | .toteWithdraw w => Sys2Proof.Machine.execToteWithdraw w s
  | .outboundCleared w => Sys2Proof.Machine.execOutboundCleared w s
  | .stationTote w => Sys2Proof.Machine.execStationTote w s
  | .recoverRetry w => Sys2Proof.Machine.execRecoverRetry w s
  | .recoverResume w => Sys2Proof.Machine.execRecoverResume w s
  | .recoverReturn w => Sys2Proof.Machine.execRecoverReturn w s
  | .recoverClear w => Sys2Proof.Machine.execRecoverClear w s
  | .manualMove w => Sys2Proof.Machine.execManualMove w s
  | .attentionRead w => Sys2Proof.Machine.execAttentionRead w s
  | .attentionClearAll w => Sys2Proof.Machine.execAttentionClearAll w s
  | .attentionEnable w => Sys2Proof.Machine.execAttentionEnable w s
  | .attentionSummary w => Sys2Proof.Machine.execAttentionSummary w s
  | .modeProduction w => Sys2Proof.Machine.execModeProduction w s
  | .modeCommission w => Sys2Proof.Machine.execModeCommission w s
  | .hallReset w => Sys2Proof.Machine.execHallReset w s
  | .stationRestart w => Sys2Proof.Machine.execStationRestart w s
  | .missingStopBit p => Sys2Proof.Machine.execMissingStopBit p s

end Sys2Proof.Machine
end

