-- ==== Sys2Proof/Machine/Tick.lean ====
section
/-! DEFINITION. One decisecond of the hall clock (manual 5.3): what the device does when no command is waiting. The
clock advances, the frames awaiting transmission leave the ports, and the expiries then due become waiting commands
(notes/assumptions/1.md, 2.md, 4.md). -/

namespace Sys2Proof.Machine

/-! ### Expiries due -/

/-- A command, if something holds. -/
def dueIf (b : Bool) (c : Instr) : List Instr := if b then [c] else []

/-- The expiries due at a station: link timeout, reservation hold, open-until, inter-byte timeout (R49, R51, R146,
R183). -/
def State.stationDue (s : State) (i : Station) : List Instr :=
  dueIf (s.linkTimeoutDue i) (.linkTimeout i) ++ dueIf (s.resHoldDue i) (.reservationHold i) ++
    dueIf (s.openUntilDue i) (.openUntilExpiry i) ++ dueIf (s.interByteDue (.station i)) (.interByteTimeout (.station i))

/-- The backoff expiries due in the queue (R103). -/
def State.backoffsDue (s : State) : List Instr :=
  (s.queue.filter (backoffDue s.clock)).map fun j => .backoffExpiry j.number

/-- Every expiry due now: of the drive and the shuttle (R121, R124, R148, R183), the stations and the queue. -/
def State.expiriesDue (s : State) : List Instr :=
  dueIf s.moveDeadlineDue .moveDeadline ++ dueIf s.zoneWaitDue .zoneWaitDeadline ++ dueIf s.pingDueNow .pingDue ++
    dueIf (s.interByteDue .drive) (.interByteTimeout .drive) ++ allStations.flatMap s.stationDue ++ s.backoffsDue

/-! ### The tick -/

/-- A station's frames gone out on its line. -/
def StationRec.sent (r : StationRec) : StationRec := { r with tx := [] }

/-- The hall clock one decisecond on, and every line emptied. -/
def State.advance (s : State) : State :=
  { s with
    clock := s.clock + 1
    stations := Vector.ofFn fun i => (s.station i).sent
    drive := { s.drive with tx := [] } }

/-- A tick: the clock advances, and the expiries then due wait as commands. -/
def State.tick (s : State) : State :=
  let s1 := s.advance
  let p := freelyOrdered s1.draws s1.expiriesDue
  { s1 with draws := p.1, pending := p.2 }

end Sys2Proof.Machine
end

