-- ==== Sys2Proof/Machine/Step.lean ====
section
/-! DEFINITION. The step of the device: the command at the front of the queue is applied; with no command waiting a
decisecond passes. And the placing of the command that a word spells. -/

namespace Sys2Proof.Machine

/-- One step: the command waiting longest leaves the queue and has its effect; with none waiting the hall clock ticks
(notes/assumptions/1.md). -/
def step (s : State) : Host.Outcome State Fault Refusal :=
  match s.pending with
  | [] => .next s.tick
  | c :: cs => exec c { s with pending := cs }

/-- The state with the command that a word of the table spells put at the front of the queue; unchanged where the word
spells none, which no word does (notes/assumptions/23.md). -/
def State.withFetchWord (s : State) (nbits w : Nat) : State :=
  match decodeTableWord nbits w with
  | some c => { s with pending := c :: s.pending }
  | none => s

end Sys2Proof.Machine
end

