-- ==== Sys2Proof/Safety.lean ====
section
/-! DEFINITION. What counts as a safe state: the ten laws of the device, as the manual states them among its rules, each
decidable on a state, and the bounds that the account rules and the attention rules state. -/

namespace Sys2Proof.Machine

/-- Every job that exists: queued or current (R93). -/
def State.jobs (s : State) : List Job := s.queue ++ (s.current?.toList.map Current.job)

/-- Law 1: a held tag stands in exactly one place (R3). -/
abbrev State.TagsOnce (s : State) : Prop := s.heldTags.Nodup

/-- Law 2: a slot is RESERVED or OUT exactly when one BAR job names it, and that job is its owner (R5). -/
abbrev State.SlotsOwned (s : State) : Prop :=
  ∀ k : SlotIx, ((s.jobs.filter fun j => j.isBar && decide (j.slot = some k)).map Job.number) = (s.slot k).owner?.toList

/-- Law 3: each station has at most one BAR job and at most one tote job, queued or current (R95). -/
abbrev State.OneJobOfAKind (s : State) : Prop :=
  ∀ i : Station, (s.jobs.filter (jobIs true i)).length ≤ 1 ∧ (s.jobs.filter (jobIs false i)).length ≤ 1

/-- The tote entries on the shuttle (R127). -/
def Load.toteCount : Load → Nat
  | .totes _ => 1
  | _ => 0

/-- The stations whose tote state is not NO_TOTE (R71). -/
def State.stationTotes (s : State) : Nat := (allStations.filter fun i => decide ((s.station i).tote ≠ .noTote)).length

/-- Law 4: stand, lane, stations and load hold the population (R71). -/
abbrev State.TotesCounted (s : State) : Prop :=
  s.pool.empties + s.pool.outFull + s.stationTotes + s.load.toteCount = s.pool.population

/-- Law 5: no more reservations than places (R71). -/
abbrev State.PoolBounded (s : State) : Prop :=
  s.pool.outFull + s.pool.outRes ≤ s.pool.outCap ∧ s.pool.reserved ≤ s.pool.empties

/-- Law 6: a fill count never exceeds the capacity of the station's setup (R72). -/
abbrev State.FillBounded (s : State) : Prop :=
  ∀ i : Station, ∀ u ∈ (s.station i).spindle.setup?, (s.station i).tote.fill ≤ u.capacity

/-- Law 7: the load is NONE whenever no job is current (R127). -/
abbrev State.LoadHasJob (s : State) : Prop := s.current? = none → s.load = .nothing

/-- Law 8: there is at most one current job, and it is not in the queue; no two jobs bear one number (R94, R99). -/
abbrev State.NumbersOnce (s : State) : Prop := (s.jobs.map Job.number).Nodup

/-- Law 9: a station whose cradle holds a bar has no BAR job (R62). -/
abbrev State.CradleCovers (s : State) : Prop := ∀ i : Station, (s.station i).cradle.isSome → s.hasJob true i = false

/-- The station whose zone a move reaches into: a hand-off action at a cradle or a tote port (R122). -/
def Move.intoZone (m : Move) : Option Station :=
  match m.action, m.target with
  | .placeBar, .cradle i => some i
  | .placeTote, .totePort i => some i
  | .swapTote, .totePort i => some i
  | _, _ => none

/-- The station whose zone the move in flight reaches into. -/
def State.zoneEntered (s : State) : Option Station :=
  match s.shuttle with
  | .moving _ m => m.intoZone
  | _ => none

/-- Law 10: while a hand-off move is in flight at a station, its zone is IN_USE (R122, R139). -/
abbrev State.ZoneGuarded (s : State) : Prop := ∀ i ∈ s.zoneEntered, (s.station i).zone = .inUse

/-- A safe state: the ten laws together. -/
structure State.Safe (s : State) : Prop where
  tagsOnce      : s.TagsOnce
  slotsOwned    : s.SlotsOwned
  oneJobOfAKind : s.OneJobOfAKind
  totesCounted  : s.TotesCounted
  poolBounded   : s.PoolBounded
  fillBounded   : s.FillBounded
  loadHasJob    : s.LoadHasJob
  numbersOnce   : s.NumbersOnce
  cradleCovers  : s.CradleCovers
  zoneGuarded   : s.ZoneGuarded

/-! ### Bounds stated by single rules -/

/-- The attention set stands in read order with one record for each cause and scope (R172). -/
abbrev State.AttentionOrdered (s : State) : Prop := s.attention.Pairwise fun a b => a.rank < b.rank

/-- The accounts keep the bounds of R22 on rem, N and K. -/
abbrev State.AccountsBounded (s : State) : Prop :=
  ∀ i : Station, ∀ u ∈ (s.station i).spindle.setup?, ∀ a ∈ (s.station i).spindle.account?,
    a.rem ≤ 400000 ∧ a.partsLeft = partsLeftOf u a.rem ∧ 1 ≤ a.lead ∧ a.lead ≤ 63

/-! ### Vocabulary of the statements -/

/-- Between commands, a present station whose link is UP. -/
abbrev State.UpAt (s : State) (i : Station) : Prop :=
  s.dispatchDue = false ∧ (s.station i).present = true ∧ (s.station i).link = .up

/-- The record of a station heard and answered with `f`, nothing else of it changed (R48, R183, R185). -/
def StationRec.answered (r : StationRec) (now : Time) (f : Frame) : StationRec :=
  { r with lastHeard := some now, rx := .hunt, tx := r.tx ++ [f] }

/-- The station of a request command, which a frame of that station spells (R184, R186). -/
def requestOf : Instr → Option Station
  | .hello i => some i
  | .setup i _ => some i
  | .load i _ => some i
  | .partOff i _ _ _ => some i
  | .barEnd i _ => some i
  | .zoneGrant i _ => some i
  | .zoneClose i => some i
  | .status i _ => some i
  | .detach i => some i
  | .unknownType i _ => some i
  | _ => none

/-- The TYPE of a request that DETACHED refuses: every one but HELLO (R52, R184). -/
def attachedType : Instr → Option Byte
  | .setup _ _ => some 0x02#8
  | .load _ _ => some 0x03#8
  | .partOff _ _ _ _ => some 0x04#8
  | .barEnd _ _ => some 0x05#8
  | .zoneGrant _ _ => some 0x06#8
  | .zoneClose _ => some 0x07#8
  | .status _ _ => some 0x08#8
  | .detach _ => some 0x09#8
  | _ => none

/-- The write transaction of a supervisor command and the LEN values its code permits (R198). -/
def writeForm : Instr → Option (Write × List Nat)
  | .stockEnter w => some (w, [10])
  | .stockRemove w => some (w, [2])
  | .slotBlock w => some (w, [1])
  | .slotUnblock w => some (w, [1])
  | .tableCursor w => some (w, [3])
  | .tableRead w => some (w, [0])
  | .hallParamRead w => some (w, [1, 5])
  | .hallParamWrite w => some (w, [1, 5])
  | .stationParamRead w => some (w, [2, 6])
  | .stationParamWrite w => some (w, [2, 6])
  | .arbiterOrder w => some (w, [4])
  | .hallHold w => some (w, [1])
  | .stationHold w => some (w, [3])
  | .stationHoldRelease w => some (w, [3])
  | .jobCancel w => some (w, [1])
  | .toteAdd w => some (w, [2])
  | .toteWithdraw w => some (w, [2])
  | .outboundCleared w => some (w, [2])
  | .stationTote w => some (w, [3])
  | .recoverRetry w => some (w, [1])
  | .recoverResume w => some (w, [1])
  | .recoverReturn w => some (w, [1])
  | .recoverClear w => some (w, [1])
  | .manualMove w => some (w, [2])
  | .attentionRead w => some (w, [0])
  | .attentionClearAll w => some (w, [0])
  | .attentionEnable w => some (w, [2])
  | .attentionSummary w => some (w, [0])
  | .modeProduction w => some (w, [1])
  | .modeCommission w => some (w, [1])
  | .hallReset w => some (w, [0])
  | .stationRestart w => some (w, [2])
  | _ => none

/-- A field of a table entry: `len` bytes from an offset on (R198). -/
def fieldAt (entry : List Byte) (offset len : Nat) : List Byte := (entry.drop offset).take len

/-! ### Invariants of the steps -/

/-- Law 5 with what makes it last: the pool reservations are those the current job still holds, a swap holds its place in
the lane, only a swap carries a full tote or goes to the lane, and no more is reserved than there is (R70, R71, R80). -/
structure State.PoolHeld (s : State) : Prop where
  bounded : s.PoolBounded
  stand   : s.pool.reserved = (if s.current?.any Current.standRes then 1 else 0)
  lane    : s.pool.outRes = (if s.current?.any Current.outRes then 1 else 0)
  swap    : ∀ c ∈ s.current?, c.job.kind = .swap → c.outRes = true
  toLane  : ∀ c ∈ s.current?, c.phase = .swap ∨ c.phase = .toOutbound ∨ c.phase = .placeFull → c.job.kind = .swap
  handoff : ∀ c ∈ s.current?, c.phase = .handoff → c.job.kind = .bar
  full    : ∀ n i, s.load = .totes (.full n i) → ∃ c ∈ s.current?, c.job.kind = .swap ∧ c.cancel = false

/-- Laws 3 and 9 with what makes them last: each station has at most one BAR job and one tote job, a station whose cradle
holds a bar has no BAR job, and only a BAR job is handed off at a cradle (R62, R95). -/
structure State.JobsHeld (s : State) : Prop where
  oneOfAKind : s.OneJobOfAKind
  cradle     : s.CradleCovers
  handoff    : ∀ c ∈ s.current?, c.phase = .handoff → c.job.kind = .bar

/-- Law 1 with what makes it last: the tag counter is a tag or 0 (R3, R4). -/
structure State.TagsHeld (s : State) : Prop where
  once    : s.TagsOnce
  counter : s.tagCounter ≤ 65535

/-- Law 6 with what makes it last: a tote that has room holds fewer parts than the capacity, which is at least 1 (R57,
R72, R73). -/
abbrev State.FillHeld (s : State) : Prop :=
  ∀ i : Station, ∀ u ∈ (s.station i).spindle.setup?, 1 ≤ u.capacity ∧ (s.station i).tote.fill ≤ u.capacity ∧
    ∀ n, (s.station i).tote = .filling n ∨ (s.station i).tote = .due n → n < u.capacity

/-- Law 8 with what makes it last: laws 3 and 9 hold, so that a free number is found, and the job counter is a number or
0 (R94, R95). -/
structure State.NumbersHeld (s : State) : Prop where
  jobs    : s.JobsHeld
  once    : s.NumbersOnce
  counter : s.jobCounter ≤ 255

/-- The load that the current job carries in its phase, by its kind and by whether it is being taken home; a tote job
that has yet to take its empty holds its stand reservation (R80, R81, R128, R130, R131, R133). -/
def Current.Carries (c : Current) (l : Load) : Prop :=
  match c.ret, c.job.kind, c.phase with
  | none, .bar, .toSlot => l = .nothing
  | none, .bar, .pick => l = .nothing
  | none, .bar, .toStation => ∃ b o, l = .bar b o
  | none, .bar, .zoneWait => ∃ b o, l = .bar b o
  | none, .bar, .handoff => ∃ b o, l = .bar b o
  | none, .swap, .toStand => l = .nothing ∧ c.standRes = true
  | none, .swap, .pickEmpty => l = .nothing ∧ c.standRes = true
  | none, .swap, .toStation => l = .totes .empty
  | none, .swap, .zoneWait => l = .totes .empty
  | none, .swap, .swap => l = .totes .empty
  | none, .swap, .toOutbound => ∃ n i, l = .totes (.full n i)
  | none, .swap, .placeFull => ∃ n i, l = .totes (.full n i)
  | none, .place, .toStand => l = .nothing ∧ c.standRes = true
  | none, .place, .pickEmpty => l = .nothing ∧ c.standRes = true
  | none, .place, .toStation => l = .totes .empty
  | none, .place, .zoneWait => l = .totes .empty
  | none, .place, .place => l = .totes .empty
  | some _, .bar, .toSlot => ∃ b o, l = .bar b o
  | some _, .bar, .putBack => ∃ b o, l = .bar b o
  | some _, .swap, .toStand => l = .totes .empty
  | some _, .swap, .place => l = .totes .empty
  | some _, .place, .toStand => l = .totes .empty
  | some _, .place, .place => l = .totes .empty
  | some _, .swap, .toOutbound => ∃ n i, l = .totes (.full n i)
  | some _, .swap, .placeFull => ∃ n i, l = .totes (.full n i)
  | _, _, _ => False

/-- The current job waits at a zone, on its way out (R139, R161, R162). -/
def Current.waiting (c : Current) : Prop := c.phase = .zoneWait ∧ c.ret = none

/-- Laws 2, 4 and 7, and the laws they lean on, with what makes them last: the current job carries what its phase says and
is cancelled only with an empty load (R112); a waiting visit is in its zone wait; no job is current in COMMISSION (R196);
queued BAR jobs own RESERVED slots and the current one its slot, RESERVED or, with its bar on the load, OUT (R5, R130);
tote jobs fit the tote state of their stations (R72); a DETACHED station is UNSET and has no queued job (R48, R78, R109). -/
structure State.WorkHeld (s : State) : Prop where
  pool     : s.PoolHeld
  numbers  : s.NumbersHeld
  slots    : s.SlotsOwned
  totes    : s.TotesCounted
  load     : s.LoadHasJob
  carries  : ∀ c ∈ s.current?, c.Carries s.load
  cancel   : ∀ c ∈ s.current?, c.cancel = true → s.load = .nothing
  waits    : ∀ c d, s.shuttle = .zoneWait c d → c.waiting
  stopped  : ∀ w f, s.shuttle = .fault w f none → ∃ c, w = .job c ∧ c.waiting
  mode     : s.supervisor.mode = .commission → s.current? = none
  queued   : ∀ j ∈ s.queue, ∀ k ∈ j.slot, j.kind = .bar ∧ ∃ b, s.slot k = .reserved b j.number
  current  : ∀ c ∈ s.current?, c.job.kind = .bar → ∃ k, c.job.slot = some k ∧
    (s.load = .nothing → ∃ b, s.slot k = .reserved b c.job.number) ∧
    (∀ b o, s.load = .bar b o → o = k ∧ s.slot k = .out c.job.number)
  noSlot   : ∀ c ∈ s.current?, c.job.kind ≠ .bar → c.job.slot = none
  swaps    : ∀ j ∈ s.jobs, j.kind = .swap → (s.station j.station).tote ≠ .noTote
  places   : ∀ j ∈ s.jobs, j.kind = .place → (s.station j.station).tote = .noTote
  attached : ∀ j ∈ s.queue, (s.station j.station).link ≠ .detached
  unset    : ∀ i, (s.station i).link = .detached → (s.station i).spindle = .unset

/-- The station whose zone the move in flight or the move of the fault reaches into. -/
def State.zoneReached (s : State) : Option Station :=
  match s.shuttle with
  | .moving _ m => m.intoZone
  | .fault _ _ (some m) => m.intoZone
  | _ => none

/-- Law 10 with what makes it last: the zone is IN_USE for the move in flight and, through a fault, for the move of the
fault (R139, R151). -/
abbrev State.ZoneHeld (s : State) : Prop := ∀ i ∈ s.zoneReached, (s.station i).zone = .inUse

end Sys2Proof.Machine
end

