-- ==== Sys2Proof/Certificates/Slice0/Obligations.lean ====
section
/-! DEFINITION. The statements for the provers: what the manual's rules say of the commands and of the machine. -/

open Sys2Proof Sys2Proof.Machine

/-! ### The machine as a whole -/

/-- The command at the front of the queue is run on the state with the rest of the queue (the queue is the model's,
notes/assumptions/24.md). -/
def Obligations.StepRunsTheFrontCommand : Prop :=
  ∀ (s : State) (c : Instr) (cs : List Instr), s.pending = c :: cs → step s = exec c { s with pending := cs }

/-- Every command completes (POWER_ON_RESET in a statement of its own below), and none but it moves the hall clock or touches
the queue of commands
(R185, R191: each is applied whole; that it takes no time is the model's choice, notes/assumptions/1.md). -/
def Obligations.EveryCommandCompletesInNoTime : Prop :=
  ∀ (c : Instr) (s : State), c ≠ .powerOnReset →
    ∃ t, exec c s = .next t ∧ t.clock = s.clock ∧ t.pending = s.pending

/-- With no command waiting a step is one ds (the model's choice, notes/assumptions/1.md, 2.md, 4.md and 21.md): the clock
advances by one, every line is emptied, nothing else changes but the draw count and the queue, and the queue then holds
exactly the expiries due, in some order; these are the expiries the rules give: link timeout (R49), reservation hold (R51),
backoff (R103), PING (R121), move deadline (R124), open-until (R146), zone wait deadline (R148), inter-byte timeout (R183). -/
def Obligations.AnIdleStepIsOneDecisecond : Prop :=
  ∀ s : State, s.pending = [] → ∃ t, step s = .next t ∧ t.pending.Perm t.expiriesDue ∧
    t = { s with
      clock := s.clock + 1
      stations := s.stations.map fun r => { r with tx := [] }
      drive := { s.drive with tx := [] }
      draws := t.draws
      pending := t.pending } ∧
    (∀ i, .linkTimeout i ∈ t.pending ↔ (t.station i).link = .up ∧
      ∃ h, (t.station i).lastHeard = some h ∧ t.params.linkTimeout < (t.clock - h).toNat) ∧
    (∀ i, .reservationHold i ∈ t.pending ↔
      ∃ l, (t.station i).link = .lost l false ∧ t.params.resHold ≤ (t.clock - l).toNat) ∧
    (∀ n, .backoffExpiry n ∈ t.pending ↔
      ∃ j ∈ t.queue, j.number = n ∧ ∃ b, j.backoff = some b ∧ (t.clock - b).toNat < 2147483648) ∧
    (.pingDue ∈ t.pending ↔ (t.shuttle = .idle ∨ t.shuttle = .offline ∧ t.drive.ready = true) ∧
      ∃ d, t.drive.pingAt = some d ∧ (t.clock - d).toNat < 2147483648) ∧
    (.moveDeadline ∈ t.pending ↔ ∃ w m, t.shuttle = .moving w m ∧ (t.clock - m.deadline).toNat < 2147483648) ∧
    (∀ i, .openUntilExpiry i ∈ t.pending ↔
      ∃ d, (t.station i).zone = .opened d ∧ (t.clock - d).toNat < 2147483648) ∧
    (.zoneWaitDeadline ∈ t.pending ↔ ∃ c d, t.shuttle = .zoneWait c d ∧ (t.clock - d).toNat < 2147483648) ∧
    (∀ p, .interByteTimeout p ∈ t.pending ↔ ∃ bs l, t.receiver p = .gather bs l ∧ 2 < (t.clock - l).toNat)

/-- What a power-on reset leaves, item by item (R18, R68, R92, R116, R138, R154, R181, R190, R194, R195, R196). The shuttle is
OFFLINE because the model takes DRV_RDY low at power-on (the model's choice, notes/assumptions/5.md). -/
def Obligations.ResetHoldsThePowerOnValues : Prop :=
  (∀ k, State.reset.slot k = .empty) ∧ State.reset.arrival = 0 ∧ State.reset.tagCounter = 0 ∧
  (∀ i, State.reset.station i = {
    present := false, link := .detached, lastHeard := none, spindle := .unset, ring := [], lastPart := none, drift := 0,
    driftFlag := false, cradle := none, tote := .noTote, totalParts := 0, totalRemnant := 0, barsConsumed := 0,
    travel := 600, zone := .closed, handoff := none, errors := 0, rx := .hunt, tx := [] }) ∧
  State.reset.pool = { population := 0, empties := 0, reserved := 0, outFull := 0, outRes := 0, outCap := 8 } ∧
  State.reset.queue = [] ∧ State.reset.jobCounter = 0 ∧
  State.reset.arbiter = { first := .A, second := .B, third := .C, bayA := ⟨false, none⟩, bayB := ⟨false, none⟩,
                          bayC := ⟨false, none⟩, hold := .none, holdMask := 0 } ∧
  State.reset.shuttle = .offline ∧ State.reset.load = .nothing ∧ State.reset.drive.moveTag = 0 ∧
  State.reset.drive.pingTag = 0 ∧ State.reset.drive.unanswered = 0 ∧ State.reset.drive.errors = 0 ∧
  State.reset.drive.rx = .hunt ∧ State.reset.drive.tx = [] ∧
  (List.range 14).map State.reset.hallParam = [none, some 0, some 500, some 20, some 900, some 50, some 3000, some 8,
    some 900, some 300, some 80, some 120, some 300, some 600] ∧
  State.reset.attention = [] ∧ State.reset.enable = 0xFFF#12 ∧ State.reset.nAttn = true ∧
  State.reset.supervisor.mode = .commission ∧ State.reset.supervisor.cursorTable = .stock ∧
  State.reset.supervisor.cursorIndex = 1 ∧ State.reset.supervisor.answer = none ∧ State.reset.ansRdy = false

/-- POWER_ON_RESET takes every block to its power-on value from any state; with DRV_RDY low the shuttle stays OFFLINE, with
DRV_RDY high it becomes IDLE at once (R120, R138). What the outside and the model keep across it is
notes/assumptions/6.md. -/
def Obligations.PowerOnResetReturnsEveryBlock : Prop :=
  ∀ s : State,
    (s.drive.ready = false →
      exec .powerOnReset s = .next { State.reset with draws := s.draws, pending := s.pending }) ∧
    (s.drive.ready = true →
      exec .powerOnReset s = .next { State.reset with
        shuttle := .idle
        drive := { State.reset.drive with ready := true, pingAt := some 10 }
        draws := s.draws
        pending := s.pending })

/-- Apart from POWER_ON_RESET, each setting and counter changes only by the commands that own it: the enable mask (R178),
the mode (R196), the hall parameters (R195), presence and T_s (R47, R195), the stock counters (R2, R4), the population
(R70), the hall hold (R101), the bay order and rotation flags (R104), the table cursor (R194). -/
def Obligations.OnlyItsOwnCommandsChangeASetting : Prop :=
  ∀ (c : Instr) (s t : State), c ≠ .powerOnReset → exec c s = .next t →
    (t.enable ≠ s.enable → ∃ w, c = .attentionEnable w) ∧
    (t.supervisor.mode ≠ s.supervisor.mode → ∃ w, c = .modeProduction w ∨ c = .modeCommission w) ∧
    (t.params ≠ s.params ∨ t.pool.outCap ≠ s.pool.outCap → ∃ w, c = .hallParamRead w ∨ c = .hallParamWrite w) ∧
    (∀ i, (t.station i).present ≠ (s.station i).present ∨ (t.station i).travel ≠ (s.station i).travel →
      ∃ w, c = .stationParamRead w ∨ c = .stationParamWrite w) ∧
    (t.arrival ≠ s.arrival ∨ t.tagCounter ≠ s.tagCounter → ∃ w, c = .stockEnter w) ∧
    (t.pool.population ≠ s.pool.population → ∃ w, c = .toteAdd w ∨ c = .toteWithdraw w) ∧
    (t.arbiter.hold ≠ s.arbiter.hold → ∃ w, c = .hallHold w) ∧
    (t.arbiter.first ≠ s.arbiter.first ∨ t.arbiter.second ≠ s.arbiter.second ∨ t.arbiter.third ≠ s.arbiter.third ∨
      (∃ b, (t.arbiter.bay b).rotate ≠ (s.arbiter.bay b).rotate) → ∃ w, c = .arbiterOrder w) ∧
    (t.supervisor.cursorTable ≠ s.supervisor.cursorTable ∨ t.supervisor.cursorIndex ≠ s.supervisor.cursorIndex →
      ∃ w, c = .tableCursor w ∨ c = .tableRead w)

/-! ### The wire and the receivers -/

/-- Reading what was written gives the command back, for every command that travels as a frame and every value of its
fields; its payload fits a frame (R182, R183, R184, R198). So on the supervisor port, whose rows share codes by LEN or option
(notes/assumptions/15.md): the bytes of a write transaction bring the arrival of its command byte and then its command, a code
that is none UNKNOWN_CMD; a transaction that ends before both LEN bytes brings the command byte alone, with the bytes clocked after it; 00h starts a read; no
byte brings nothing (R191, R192, R198). -/
def Obligations.WrittenFramesReadBack : Prop :=
  (∀ (c : Instr) (p : Port) (type : Byte) (payload : List Byte), c.wellFormed = true →
    encodeFrame c = some (p, type, payload) → decodeFrame p type payload = some c ∧ payload.length ≤ 24) ∧
  (∀ (c : Instr) (code : Byte) (w : Write), c.wellFormed = true → encodeCommand c = some (code, w) →
    decodeTransaction ([code, w.tag] ++ bytes16 w.len ++ w.bytes) = [.commandByte ⟨code, 0⟩, c]) ∧
  (∀ (code : Byte) (rest : List Byte), code ≠ 0 → rest.length < 3 →
    decodeTransaction (code :: rest) = [.commandByte ⟨code, rest.length⟩]) ∧
  (∀ rest : List Byte, decodeTransaction (0 :: rest) = [.readTransaction rest.length]) ∧ decodeTransaction [] = []

/-- The bytes of a frame arriving at a port that hunts have the effect of the command they spell, and of nothing else, in
every state (R182, R183, R198). That FRAME_DISCARD carries such bytes and hands the command on, all at one time, is the
model's choice (notes/assumptions/19.md, 28.md). A TYPE that is no request is here written without a payload; with one it is
in the next statement. -/
def Obligations.ArrivingBytesHaveTheirCommandsEffect : Prop :=
  ∀ (c : Instr) (p : Port) (type : Byte) (payload : List Byte) (s : State), c.wellFormed = true →
    encodeFrame c = some (p, type, payload) → s.receiver p = .hunt →
      exec (.frameDiscard p (frameBytes type payload)) s = exec c s

/-- A frame whose CRC does not match, a frame whose LEN is above 24, a request whose LEN its TYPE does not permit, and at the
drive port every TYPE but DONE, FAULT and PING with its LEN (MOVE too) are discarded: counted at the drive port and at the
port of a present station, and without any effect at the port of a station that is not present (R47, R183, R184, R198). A TYPE
that is no request is taken whatever its payload (R186). A byte with a
missing stop bit, and a pause of more than 2 ds, discard the frame being gathered; in HUNT, and within the 2 ds, nothing
happens (R183; notes/assumptions/3.md). An error raises the port's count by one and nothing else, until the count stands at 255; at each multiple of
16 FRAME_ERRORS is raised with the new count (R175). That FRAME_DISCARD carries the line's bytes, all of them at one time, and
hands on a whole frame of unknown TYPE as unknownType, is the model's choice (notes/assumptions/19.md, 28.md). -/
def Obligations.ABadFrameIsDiscardedAndCounted : Prop :=
  ∀ (s : State) (p : Port),
    (∀ bytes : List Byte, s.receiver p = .hunt →
      ((∃ len, 24 < len.toNat ∧ bytes = [0xA5#8, len]) ∨
        (∃ type payload lo hi, payload.length ≤ 24 ∧
          bytes = 0xA5#8 :: nat8 payload.length :: type :: (payload ++ [lo, hi]) ∧
          hi ++ lo ≠ crc16 (nat8 payload.length :: type :: payload)) ∨
        (∃ type payload, payload.length ≤ 24 ∧ bytes = frameBytes type payload ∧
          ((∃ i, p = .station i) ∧ (∃ lens, (type.toNat, lens) ∈ [(1, [0]), (2, [24]), (3, [0, 4]), (4, [3, 7]), (5, [0, 4]),
              (6, [2]), (7, [0]), (8, [0, 1]), (9, [0])] ∧ payload.length ∉ lens) ∨
            p = .drive ∧ (type.toNat, payload.length) ∉ [(0x21, 1), (0x22, 2), (0x23, 1)]))) →
      (p = .drive ∨ (∃ i, p = .station i ∧ (s.station i).present = true) →
        exec (.frameDiscard p bytes) s = .next (s.countError p)) ∧
      ((∃ i, p = .station i ∧ (s.station i).present = false) → exec (.frameDiscard p bytes) s = .next s)) ∧
    (∀ i type payload, p = .station i → s.receiver p = .hunt → ¬(1 ≤ type.toNat ∧ type.toNat ≤ 9) → payload.length ≤ 24 →
      exec (.frameDiscard p (frameBytes type payload)) s = exec (.unknownType i type) s) ∧
    (∀ bs l, s.receiver p = .gather bs l →
      (p = .drive ∨ (∃ i, p = .station i ∧ (s.station i).present = true) →
        exec (.missingStopBit p) s = .next ((s.setReceiver p .hunt).countError p)) ∧
      ((∃ i, p = .station i ∧ (s.station i).present = false) →
        exec (.missingStopBit p) s = .next (s.setReceiver p .hunt)) ∧
      (2 < (s.clock - l).toNat → exec (.interByteTimeout p) s = exec (.missingStopBit p) s) ∧
      ((s.clock - l).toNat ≤ 2 → exec (.interByteTimeout p) s = .next s)) ∧
    (s.receiver p = .hunt → exec (.missingStopBit p) s = .next s ∧ exec (.interByteTimeout p) s = .next s) ∧
    (255 ≤ s.portErrors p → s.countError p = s) ∧
    (∀ i, p = .station i → s.portErrors p < 255 →
      (¬ 16 ∣ s.portErrors p + 1 →
        s.countError p = s.setStation i { s.station i with errors := (s.station i).errors + 1 }) ∧
      (16 ∣ s.portErrors p + 1 →
        s.countError p = (s.setStation i { s.station i with errors := (s.station i).errors + 1 }).raiseEvent .frameErrors
          (.station i) ((s.station i).errors + 1))) ∧
    (p = .drive → s.portErrors p < 255 →
      (¬ 16 ∣ s.portErrors p + 1 → s.countError p = s.setDrive { s.drive with errors := s.drive.errors + 1 }) ∧
      (16 ∣ s.portErrors p + 1 →
        s.countError p = (s.setDrive { s.drive with errors := s.drive.errors + 1 }).raiseEvent .frameErrors .hall
          (s.drive.errors + 1)))

/-! ### The supervisor port -/

/-- The transactions below the commands (R191): the command byte discards the unread answer and ANS_RDY falls, and MISO sends
FFh with it and with each byte clocked after it, also where nCS rises before both LEN bytes; a read shifts the answer out from
its first byte and removes it when its last byte has been clocked, a shorter read leaves it; with none waiting MISO sends FFh
(the record of MISO, and FFh with a read's first byte while an answer waits, are the model's, notes/assumptions/22.md). A code the port does not know is
refused UNKNOWN_CMD (R192), with field index 0 (the model's reading, notes/assumptions/10.md). -/
def Obligations.TransactionsMoveTheAnswerBuffer : Prop :=
  ∀ s : State,
    (∀ code clocked, code ≠ 0 → exec (.commandByte ⟨code, clocked⟩) s = .next { s with supervisor := { s.supervisor with
      answer := none
      miso := List.replicate (1 + clocked) 0xFF#8 } }) ∧
    (∀ n, s.supervisor.answer = none → exec (.readTransaction n) s =
      .next { s with supervisor := { s.supervisor with miso := List.replicate (1 + n) 0xFF#8 } }) ∧
    (∀ n tag status payload, s.supervisor.answer = some ⟨tag, status, payload⟩ →
      (n < 4 + payload.length → exec (.readTransaction n) s = .next { s with supervisor := { s.supervisor with
        miso := 0xFF#8 :: ([tag, status] ++ nat16 payload.length ++ payload).take n } }) ∧
      (n = 4 + payload.length → exec (.readTransaction n) s = .next { s with supervisor := { s.supervisor with
        answer := none
        miso := [0xFF#8, tag, status] ++ nat16 payload.length ++ payload } })) ∧
    (∀ code w, exec (.unknownCmd code w) s = .next { s with supervisor := { s.supervisor with
      answer := some ⟨w.tag, 0x02#8, [13#8, 0#8]⟩
      miso := List.replicate (4 + w.bytes.length) 0xFF#8 } })

/-- A LEN that the command does not permit, or fewer payload bytes than LEN, is refused LENGTH, and nothing but the answer
buffer changes (R191, R192, R198); then a COMMISSION-only command in PRODUCTION is refused WRONG_MODE (R192). -/
def Obligations.LengthAndModeAreCheckedFirst : Prop :=
  ∀ (s : State) (c : Instr) (w : Write) (lens : List Nat), writeForm c = some (w, lens) →
    (w.len.toNat ∉ lens ∨ w.bytes.length < w.len.toNat → ∃ k, exec c s = .next (s.refuse w .length k)) ∧
    (w.len.toNat ∈ lens ∧ w.len.toNat ≤ w.bytes.length ∧ s.supervisor.mode = .production ∧
      (c = .toteAdd w ∨ c = .toteWithdraw w ∨ c = .stationTote w ∨ c = .manualMove w) →
      ∃ k, exec c s = .next (s.refuse w .wrongMode k))

/-- STOCK_ENTER refuses the first field out of range with its position, then a slot that is not EMPTY (R7, R192, R198). An
accepted one advances the arrival counter, holding at its largest value, gives the bar that stamp and the allocated tag,
and answers DATA with both; with no waiting BAR job that the bar suits the slot becomes READY and nothing else changes,
and otherwise the first such job in the dispatch order takes the slot (R2, R4, R7, R16). -/
def Obligations.StockEnterPutsABarInItsSlot : Prop :=
  (∀ (s : State) (w : Write), w.lenOk [10] = true →
     let slotBad := w.u8 0 < 1 ∨ 64 < w.u8 0
     let materialBad := w.u16 1 < 1 ∨ 1023 < w.u16 1
     let sectionBad := w.u8 3 < 1 ∨ 3 < w.u8 3
     let sizeBad := w.u16 4 < 20 ∨ 1000 < w.u16 4
     let lengthBad := w.u32 6 < 10000 ∨ 400000 < w.u32 6
     (slotBad → exec (.stockEnter w) s = .next (s.refuse w .range 1)) ∧
     (¬slotBad ∧ materialBad → exec (.stockEnter w) s = .next (s.refuse w .range 2)) ∧
     (¬slotBad ∧ ¬materialBad ∧ sectionBad → exec (.stockEnter w) s = .next (s.refuse w .range 3)) ∧
     (¬slotBad ∧ ¬materialBad ∧ ¬sectionBad ∧ sizeBad → exec (.stockEnter w) s = .next (s.refuse w .range 4)) ∧
     (¬slotBad ∧ ¬materialBad ∧ ¬sectionBad ∧ ¬sizeBad ∧ lengthBad →
       exec (.stockEnter w) s = .next (s.refuse w .range 5)) ∧
     (∀ k : SlotIx, ¬materialBad → ¬sectionBad → ¬sizeBad → ¬lengthBad → w.u8 0 = k.val + 1 → s.slot k ≠ .empty →
       ∃ f, exec (.stockEnter w) s = .next (s.refuse w .slotBusy f))) ∧
  (∀ (s : State) (w : Write) (k : SlotIx) (sh : Shape), s.dispatchDue = false → w.lenOk [10] = true →
     w.u8 0 = k.val + 1 → 1 ≤ w.u16 1 → w.u16 1 ≤ 1023 → w.u8 3 = sh.code → 20 ≤ w.u16 4 → w.u16 4 ≤ 1000 →
     10000 ≤ w.u32 6 → w.u32 6 ≤ 400000 → s.slot k = .empty →
     let bar : Bar := ⟨s.freshTag, ⟨w.u16 1, sh, w.u16 4⟩, w.u32 6, min (s.arrival + 1) 4294967295⟩
     let answer := nat16 s.freshTag ++ nat32 (min (s.arrival + 1) 4294967295)
     ((∀ j ∈ s.queue, ¬(s.waits none j = true ∧ s.qualifies j.station bar = true)) →
       exec (.stockEnter w) s = .next ((({ s with
         arrival := min (s.arrival + 1) 4294967295
         tagCounter := s.freshTag } : State).setSlot k (.ready bar)).data w answer)) ∧
     ((∃ j ∈ s.queue, s.waits none j = true ∧ s.qualifies j.station bar = true) →
       ∃ t, exec (.stockEnter w) s = .next t ∧ t.arrival = min (s.arrival + 1) 4294967295 ∧ t.tagCounter = s.freshTag ∧
         t.supervisor.answer = some ⟨w.tag, 0x01#8, answer⟩ ∧
         (∃ j ∈ s.queue, s.waits none j = true ∧ s.qualifies j.station bar = true ∧
           (∀ q ∈ s.queue, s.waits none q = true → s.qualifies q.station bar = true →
             lexLt (s.dispatchKey q) (s.dispatchKey j) = false) ∧
           t.slot k = .reserved bar j.number) ∧
         ∀ k' ≠ k, t.slot k' = s.slot k'))

/-- STOCK_REMOVE by the table of R8, where a forced removal leaves the owner job to select anew: it holds another slot, or
STOCK_OUT is raised, and no selection is tried for a LOST station (R8, R12, R13, R17). SLOT_BLOCK takes an EMPTY or READY slot
out of use with its bar record unchanged, changes nothing in a BLOCKED slot and is refused for a RESERVED or OUT one (R9).
JOB_CANCEL by the rows of R110: the refusals; a queued job leaves the queue and its reservation is released (R111); the
current job is flagged on a TRAVEL with an empty load (R112). A backoff that is reached becomes absent with a dispatch
evaluation (R103); one that is not, nothing (notes/assumptions/3.md, 21.md). That a FORCE value other than 0 or 1 is refused
RANGE before the slot's state is looked at is the model's choice (notes/assumptions/32.md). -/
def Obligations.SlotAndCancelCommandsFollowTheState : Prop :=
  (∀ (s : State) (w : Write), w.lenOk [2] = true →
     (w.u8 0 < 1 ∨ 64 < w.u8 0 → exec (.stockRemove w) s = .next (s.refuse w .range 1)) ∧
     (∀ k : SlotIx, w.u8 0 = k.val + 1 →
       (1 < w.u8 1 → exec (.stockRemove w) s = .next (s.refuse w .range 2)) ∧
       (w.u8 1 ≤ 1 →
         (s.slot k = .empty ∨ s.slot k = .blocked none →
           ∃ f, exec (.stockRemove w) s = .next (s.refuse w .slotEmpty f)) ∧
         (∀ b, s.slot k = .ready b →
           exec (.stockRemove w) s = .next ((s.setSlot k .empty).data w (nat16 b.tag))) ∧
         (∀ b, s.slot k = .blocked (some b) →
           exec (.stockRemove w) s = .next ((s.setSlot k (.blocked none)).data w (nat16 b.tag))) ∧
         (∀ n, s.slot k = .out n → ∃ f, exec (.stockRemove w) s = .next (s.refuse w .slotBusy f)) ∧
         (∀ b n, s.slot k = .reserved b n → w.u8 1 = 0 ∨ (∀ j ∈ s.queue, j.number ≠ n) →
           ∃ f, exec (.stockRemove w) s = .next (s.refuse w .slotBusy f)) ∧
         (∀ b n, s.slot k = .reserved b n → w.u8 1 = 1 → (∃ j ∈ s.queue, j.number = n) →
           ∃ t, exec (.stockRemove w) s = .next t ∧ t.slot k = .empty ∧
             t.supervisor.answer = some ⟨w.tag, 0x01#8, nat16 b.tag⟩ ∧
             ∀ j ∈ t.queue, j.number = n → j.slot ≠ some k) ∧
         (∀ b n j u, s.dispatchDue = false → s.slot k = .reserved b n → w.u8 1 = 1 → s.queuedJob n = some j →
           s.queuedOf true j.station = some j → (s.station j.station).spindle.setup? = some u →
           let removed (slot : Option SlotIx) : State := ({ s with
             queue := s.queue.map fun q => if q.number = n then { q with slot := slot } else q } : State).setSlot k .empty
           ((s.station j.station).link.isLost = true →
             exec (.stockRemove w) s = .next ((removed none).data w (nat16 b.tag))) ∧
           ((s.station j.station).link.isLost = false →
             (∀ k' b', (removed none).pick j.station = some (k', b') → exec (.stockRemove w) s =
               .next ((State.evaluate (((removed (some k')).setSlot k' (.reserved b' n)).endCondition .stockOut
                 (.station j.station))).data w (nat16 b.tag))) ∧
             ((removed none).pick j.station = none → exec (.stockRemove w) s =
               .next (((removed none).raiseCondition .stockOut (.station j.station) u.stock.material).data w
                 (nat16 b.tag)))))))) ∧
  (∀ (s : State) (w : Write), w.lenOk [1] = true →
     (w.u8 0 < 1 ∨ 64 < w.u8 0 → exec (.slotBlock w) s = .next (s.refuse w .range 1)) ∧
     (∀ k : SlotIx, w.u8 0 = k.val + 1 →
       (s.slot k = .empty → exec (.slotBlock w) s = .next ((s.setSlot k (.blocked none)).ok w [])) ∧
       (∀ b, s.slot k = .ready b → exec (.slotBlock w) s = .next ((s.setSlot k (.blocked (some b))).ok w [])) ∧
       (∀ x, s.slot k = .blocked x → exec (.slotBlock w) s = .next (s.ok w [])) ∧
       (∀ b n, s.slot k = .reserved b n ∨ s.slot k = .out n →
         ∃ f, exec (.slotBlock w) s = .next (s.refuse w .slotBusy f)))) ∧
  (∀ (s : State) (w : Write), s.dispatchDue = false → w.lenOk [1] = true →
    (w.u8 0 = 0 → exec (.jobCancel w) s = .next (s.refuse w .range 1)) ∧
    (1 ≤ w.u8 0 → (∀ j ∈ s.jobs, j.number ≠ w.u8 0) → ∃ f, exec (.jobCancel w) s = .next (s.refuse w .noJob f)) ∧
    (∀ j ∈ s.queue, j.number = w.u8 0 → 1 ≤ w.u8 0 →
      ∃ t, exec (.jobCancel w) s = .next t ∧ t.supervisor.answer = some ⟨w.tag, 0x00#8, []⟩ ∧
        (∀ q ∈ t.queue, q.number ≠ w.u8 0) ∧
        (s.supervisor.mode = .commission →
          t.queue.map Job.number = (s.queue.filter fun q => decide (q.number ≠ w.u8 0)).map Job.number ∧
          ∀ k b n, s.queuedJob (w.u8 0) = some j → j.slot = some k → s.slot k = .reserved b n →
            (∀ q ∈ s.queue, q.number ≠ j.number → ¬(s.waits none q = true ∧ s.qualifies q.station b = true)) →
            t.slot k = .ready b)) ∧
    (∀ c, 1 ≤ w.u8 0 → (∀ j ∈ s.queue, j.number ≠ w.u8 0) → s.current? = some c → c.job.number = w.u8 0 →
      (∀ k f m, s.shuttle = .fault k f m → ∃ g, exec (.jobCancel w) s = .next (s.refuse w .wrongState g)) ∧
      ((∀ k f m, s.shuttle ≠ .fault k f m) → c.cancel = true → exec (.jobCancel w) s = .next (s.ok w [])) ∧
      (∀ k m, s.shuttle = .moving k m → c.cancel = false → m.action = .travel → s.load = .nothing →
        exec (.jobCancel w) s = .next (({ s with
          shuttle := .moving (.job { c with cancel := true }) m } : State).ok w [])) ∧
      (∀ k m, s.shuttle = .moving k m → c.cancel = false → m.action ≠ .travel ∨ s.load ≠ .nothing →
        ∃ g, exec (.jobCancel w) s = .next (s.refuse w .loaded g)) ∧
      (∀ d, s.shuttle = .zoneWait c d → c.cancel = false →
        ∃ g, exec (.jobCancel w) s = .next (s.refuse w .loaded g)))) ∧
  (∀ (s : State) (n : Nat), s.dispatchDue = false →
    (∀ j b, s.queuedJob n = some j → j.backoff = some b → (s.clock - b).toNat < 2147483648 →
      exec (.backoffExpiry n) s = .next (State.evaluate { s with
        queue := s.queue.map fun q => if q.number = n then { q with backoff := none } else q })) ∧
    ((∀ j b, s.queuedJob n = some j → j.backoff = some b → ¬(s.clock - b).toNat < 2147483648) →
      exec (.backoffExpiry n) s = .next s))

/-- SLOT_UNBLOCK, all of R10: a slot number out of range is refused RANGE; a BLOCKED slot with a bar becomes READY with that
bar record and is offered, the first waiting job that it suits in the dispatch order taking it; without a bar it becomes EMPTY; in any other state the command is refused WRONG_STATE. -/
def Obligations.SlotUnblockReturnsTheSlot : Prop :=
  ∀ (s : State) (w : Write), s.dispatchDue = false → w.lenOk [1] = true →
    (w.u8 0 < 1 ∨ 64 < w.u8 0 → exec (.slotUnblock w) s = .next (s.refuse w .range 1)) ∧
    (∀ k : SlotIx, w.u8 0 = k.val + 1 →
      (∀ b, s.slot k = .blocked (some b) →
        ((∀ j ∈ s.queue, ¬(s.waits none j = true ∧ s.qualifies j.station b = true)) →
          exec (.slotUnblock w) s = .next ((s.setSlot k (.ready b)).ok w [])) ∧
        ((∃ j ∈ s.queue, s.waits none j = true ∧ s.qualifies j.station b = true) →
          ∃ t, exec (.slotUnblock w) s = .next t ∧ t.supervisor.answer = some ⟨w.tag, 0x00#8, []⟩ ∧
            ∃ j ∈ s.queue, s.waits none j = true ∧ s.qualifies j.station b = true ∧
              (∀ q ∈ s.queue, s.waits none q = true → s.qualifies q.station b = true →
                lexLt (s.dispatchKey q) (s.dispatchKey j) = false) ∧
              t.slot k = .reserved b j.number)) ∧
      (s.slot k = .blocked none → exec (.slotUnblock w) s = .next ((s.setSlot k .empty).ok w [])) ∧
      ((∀ x, s.slot k ≠ .blocked x) → ∃ f, exec (.slotUnblock w) s = .next (s.refuse w .wrongState f)))

/-- TABLE_CURSOR sets a table and an index in its range; TABLE_READ answers the entry at the cursor and advances it, and
stays where it reads END. STOCK has 64 entries of 19 bytes, STATION 12 of 121, QUEUE its jobs of 17 and one final entry
of 78, ATTENTION its records of 10 (R194, R198). Each entry holds the fields of R198 at their offsets, an absent field 0, and
a job entry the first block reason of R100 that applies (R115). That the BACKOFF reason and the time left to a deadline
compare over half the range of the clock, and that a reached deadline shows 0, is the model's reading (notes/assumptions/20.md,
21.md). So are the bits that R198 names no meaning for, which are clear (34.md), and the absent fields of the final entry, which
read 0 as R198 says of a station's (35.md). -/
def Obligations.TheCursorWalksItsTable : Prop :=
  (∀ (s : State) (w : Write),
     (w.lenOk [3] = true →
       (w.u8 0 < 1 ∨ 4 < w.u8 0 → exec (.tableCursor w) s = .next (s.refuse w .range 1)) ∧
       (∀ (t : TableId) (lo hi : Nat),
         (t, lo, hi) ∈ [(TableId.stock, 1, 64), (.station, 1, 12), (.queue, 0, 24), (.attention, 0, 100)] →
         w.u8 0 = t.code →
         (w.u16 1 < lo ∨ hi < w.u16 1 → exec (.tableCursor w) s = .next (s.refuse w .range 2)) ∧
         (lo ≤ w.u16 1 ∧ w.u16 1 ≤ hi → exec (.tableCursor w) s = .next (({ s with supervisor := { s.supervisor with
           cursorTable := t, cursorIndex := w.u16 1 } } : State).ok w [])))) ∧
     (w.lenOk [0] = true → ∀ (t : TableId) (n : Nat), s.supervisor.cursorTable = t → s.supervisor.cursorIndex = n →
       let e := s.tableEntry t n
       (e.1 = 0 → e.2 = [] ∧ exec (.tableRead w) s = .next (s.data w ([nat8 t.code] ++ nat16 n ++ [0]))) ∧
       (e.1 ≠ 0 → exec (.tableRead w) s = .next (({ s with supervisor := { s.supervisor with
         cursorIndex := n + 1 } } : State).data w ([nat8 t.code] ++ nat16 n ++ [nat8 e.1] ++ e.2))))) ∧
  (∀ (s : State) (n : Nat),
     s.tableEntry .stock n = (if 1 ≤ n ∧ n ≤ 64 then (1, (s.tableEntry .stock n).2) else (0, [])) ∧
     s.tableEntry .station n = (if 1 ≤ n ∧ n ≤ 12 then (1, (s.tableEntry .station n).2) else (0, [])) ∧
     s.tableEntry .queue n = (if n < s.queue.length then (1, (s.tableEntry .queue n).2)
       else if n = s.queue.length then (2, (s.tableEntry .queue n).2) else (0, [])) ∧
     s.tableEntry .attention n = (if n < s.attention.length then (1, (s.tableEntry .attention n).2) else (0, [])) ∧
     (1 ≤ n → n ≤ 64 → (s.tableEntry .stock n).2.length = 19) ∧
     (1 ≤ n → n ≤ 12 → (s.tableEntry .station n).2.length = 121) ∧
     (n < s.queue.length → (s.tableEntry .queue n).2.length = 17) ∧
     (s.tableEntry .queue s.queue.length).2.length = 78 ∧
     (n < s.attention.length → (s.tableEntry .attention n).2.length = 10)) ∧
  (∀ (s : State) (k : SlotIx),
     let bar (b : Bar) : List Byte := nat16 b.tag ++ nat16 b.stock.material ++ [nat8 b.stock.shape.code] ++
       nat16 b.stock.size ++ nat32 b.length ++ nat32 b.stamp
     let none15 : List Byte := List.replicate 15 0
     (s.tableEntry .stock (k.val + 1)).2 = nat8 (k.val + 1) :: match s.slot k with
       | .empty => [0, 0, 0] ++ none15
       | .ready b => [1, 1, 0] ++ bar b
       | .reserved b n => [2, 1, nat8 n] ++ bar b
       | .out n => [3, 0, nat8 n] ++ none15
       | .blocked (some b) => [4, 1, 0] ++ bar b
       | .blocked none => [4, 0, 0] ++ none15) ∧
  (∀ (s : State) (i : Station),
     let r := s.station i
     let bar (b : Option Bar) : List Byte := match b with
       | some b => nat16 b.tag ++ nat16 b.stock.material ++ [nat8 b.stock.shape.code] ++ nat16 b.stock.size ++
           nat32 b.length ++ nat32 b.stamp
       | none => List.replicate 15 0
     let time (t : Option Time) : List Byte := bytes32 (t.getD 0)
     let bit (n : Nat) (b : Bool) : Nat := if b = true then 2 ^ n else 0
     let acc := r.spindle.account?
     let lost := match r.link with
       | .lost l _ => some l
       | _ => none
     let till := match r.zone with
       | .opened d => some d
       | _ => none
     ∀ field ∈ [(0, [nat8 (i.val + 1)]),
         (1, nat16 (bit 0 r.present + bit 1 r.lastHeard.isSome + bit 2 lost.isSome + bit 3 r.spindle.setup?.isSome +
           bit 4 acc.isSome + bit 5 (acc.any Account.inexact) + bit 6 r.lastPart.isSome + bit 7 r.driftFlag +
           bit 8 r.cradle.isSome + bit 9 till.isSome + bit 10 r.handoff.isSome)),
         (3, [match r.link with | .detached => 0 | .up => 1 | .lost _ _ => 2]), (4, time r.lastHeard), (8, time lost),
         (12, [nat8 r.spindle.barState.code]),
         (13, match r.spindle.setup? with
           | some u => nat16 u.stock.material ++ [nat8 u.stock.shape.code] ++ nat16 u.stock.size ++ nat32 u.partLen ++
               nat16 u.cutOff ++ nat16 u.facing ++ nat32 u.remnant ++ nat16 u.cycle ++ [nat8 u.margin] ++
               nat16 u.capacity ++ nat16 u.exchange ++ nat32 (u.partLen + u.cutOff)
           | none => List.replicate 28 0),
         (41, bar (acc.map Account.bar)), (56, nat32 ((acc.map Account.rem).getD 0)),
         (60, nat16 ((acc.map Account.made).getD 0)), (62, nat16 ((acc.map Account.partsLeft).getD 0)),
         (64, [nat8 ((acc.map Account.lead).getD 0)]), (65, [nat8 r.ring.length]),
         (66, nat16 (r.ring.getD 0 0) ++ nat16 (r.ring.getD 1 0) ++ nat16 (r.ring.getD 2 0) ++ nat16 (r.ring.getD 3 0)),
         (74, nat16 r.cAvg), (76, time r.lastPart), (80, [nat8 r.drift]), (81, bar r.cradle), (96, [nat8 r.tote.code]),
         (97, nat16 r.tote.fill), (99, nat32 r.totalParts), (103, nat32 r.totalRemnant), (107, nat32 r.barsConsumed),
         (111, nat16 r.travel), (113, [nat8 r.zone.code]), (114, time till), (118, nat16 (r.handoff.getD 0)),
         (120, [nat8 r.errors])],
       fieldAt (s.tableEntry .station (i.val + 1)).2 field.1 field.2.length = field.2) ∧
  (∀ s : State,
     let record (j : Job) : List Byte := [nat8 j.number, nat8 j.kind.code, nat8 (j.station.val + 1), nat8 j.cls] ++
       bytes32 j.posted ++ [nat8 j.pass, nat8 ((if j.slot = none then 0 else 1) + if j.backoff = none then 0 else 2),
         match j.slot with | some k => nat8 (k.val + 1) | none => 0] ++ bytes32 (j.backoff.getD 0) ++ [nat8 j.deferral]
     let bar (b : Option Bar) : List Byte := match b with
       | some b => nat16 b.tag ++ nat16 b.stock.material ++ [nat8 b.stock.shape.code] ++ nat16 b.stock.size ++
           nat32 b.length ++ nat32 b.stamp
       | none => List.replicate 15 0
     let blocked (j : Job) : Byte :=
       if j.kind = .bar ∧ j.slot = none then 1
       else if j.kind ≠ .bar ∧ s.pool.empties - s.pool.reserved = 0 then 2
       else if j.kind = .swap ∧ s.pool.outCap ≤ s.pool.outFull + s.pool.outRes then 3
       else if (s.station j.station).link.isLost = true then 4
       else if s.arbiter.holdMask.getLsbD j.station.val = true then 5
       else if j.backoff.any (fun b => decide (¬(s.clock - b).toNat < 2147483648)) = true then 6
       else if s.arbiter.hold = .full ∨ s.arbiter.hold = .soft ∧ 2 ≤ j.cls then 7
       else 0
     let c := s.current?
     let a := s.arbiter
     (∀ n j, s.queue[n]? = some j → (s.tableEntry .queue n).2 = record j ++ [blocked j]) ∧
     (∀ field ∈ [(0, [match s.shuttle with
           | .moving .manual _ => 2
           | .fault .manual _ _ => 2
           | _ => if c = none then 0 else 1]),
         (1, match c with | some c => record c.job | none => List.replicate 16 0),
         (17, [if c.any Current.cancel = true then 1 else 0]),
         (18, [match s.shuttle with
           | .offline => 0 | .idle => 1 | .moving _ _ => 2 | .zoneWait _ _ => 3 | .fault _ _ _ => 4]),
         (19, [match c with | some c => nat8 c.phase.code | none => 0]),
         (20, [match c.bind Current.ret with | none => 0 | some .reQueue => 1 | some .endJob => 3]),
         (21, match s.shuttle with
           | .moving _ m => [1, nat8 m.tag, nat8 m.target.kindCode, nat8 m.target.number, nat8 m.action.code]
           | .fault _ _ (some m) => [1, nat8 m.tag, nat8 m.target.kindCode, nat8 m.target.number, nat8 m.action.code]
           | _ => [0, 0, 0, 0, 0]),
         (26, match s.shuttle with
           | .moving _ m => if (s.clock - m.deadline).toNat < 2147483648 then [0, 0, 0, 0] else bytes32 (m.deadline - s.clock)
           | _ => [0, 0, 0, 0]),
         (30, [if s.drive.ready = true then 1 else 0, nat8 s.drive.errors]),
         (32, match s.shuttle with
           | .fault _ f _ => [1, match f.cause with | .driveFault => 1 | .moveTimeout => 2] ++ nat16 f.detail ++
               bytes32 f.entered
           | _ => List.replicate 8 0),
         (40, match s.load with
           | .nothing => 0 :: bar none ++ [0, 0, 0, 0, 0]
           | .bar b o => 1 :: bar (some b) ++ [nat8 (o.val + 1), 0, 0, 0, 0]
           | .totes .empty => 2 :: bar none ++ [0, 1, 0, 0, 0]
           | .totes (.full n i) => 2 :: bar none ++ [0, 2] ++ nat16 n ++ [nat8 (i.val + 1)]),
         (61, [nat8 s.pool.population, nat8 s.pool.empties, nat8 s.pool.reserved, nat8 s.pool.outFull, nat8 s.pool.outRes,
           nat8 s.pool.outCap]),
         (67, [nat8 a.first.code, nat8 a.second.code, nat8 a.third.code]),
         (70, [(if a.bayA.rotate = true then 1 else 0) + (if a.bayB.rotate = true then 2 else 0) +
           (if a.bayC.rotate = true then 4 else 0)]),
         (71, [a.bayA, a.bayB, a.bayC].map fun b => match b.pointer with | some p => nat8 (p.val + 1) | none => 0),
         (74, nat8 a.hold.code :: nat16 a.holdMask.toNat), (77, [nat8 s.jobCounter])],
       fieldAt (s.tableEntry .queue s.queue.length).2 field.1 field.2.length = field.2) ∧
     (∀ n x, s.attention[n]? = some x → (s.tableEntry .attention n).2 = [nat8 x.cause.priority, nat8 x.scope.num] ++
       nat16 x.detail ++ [nat8 x.count] ++ bytes32 x.last ++
         [if x.cause.isCondition = true then (if x.reported = true then 3 else 2) else 1]))

/-- HALL_PARAM: an unknown identifier is refused RANGE 1; a read answers the value; a value out of the parameter's range,
and for O_c one below O_f + O_r, is refused RANGE 2; an accepted value reads back, every other parameter kept (R91,
R195). A new link timeout applies at once to stations already silent for longer, which become LOST (R49), and a new
reservation hold time to stays in LOST already as long, whose release falls due at once (R51); any other value changes
nothing else. -/
def Obligations.HallParametersReadBack : Prop :=
  ∀ (s : State) (w : Write), w.lenOk [1, 5] = true →
    (w.u8 0 < 1 ∨ 13 < w.u8 0 →
      exec (.hallParamRead w) s = .next (s.refuse w .range 1) ∧ exec (.hallParamWrite w) s = .next (s.refuse w .range 1)) ∧
    (∀ id lo hi v, (id, lo, hi) ∈ [(1, 0, 1), (2, 0, 5000), (3, 0, 500), (4, 0, 3000), (5, 20, 200), (6, 100, 36000),
        (7, 1, 16), (8, 100, 6000), (9, 50, 3000), (10, 10, 600), (11, 10, 600), (12, 50, 3000), (13, 10, 6000)] →
      w.u8 0 = id → s.hallParam id = some v →
      (w.len = 1 → exec (.hallParamRead w) s = .next (s.data w ([nat8 id] ++ nat32 v))) ∧
      (w.len = 5 → w.u32 1 < lo ∨ hi < w.u32 1 ∨ id = 7 ∧ w.u32 1 < s.pool.outFull + s.pool.outRes →
        exec (.hallParamWrite w) s = .next (s.refuse w .range 2)) ∧
      (w.len = 5 → lo ≤ w.u32 1 → w.u32 1 ≤ hi → (id = 7 → s.pool.outFull + s.pool.outRes ≤ w.u32 1) →
        ∃ t, exec (.hallParamWrite w) s = .next t ∧ t.supervisor.answer = some ⟨w.tag, 0x00#8, []⟩ ∧
          t.hallParam id = some (w.u32 1) ∧ (∀ id', id' ≠ id → t.hallParam id' = s.hallParam id') ∧
          (s.dispatchDue = false →
            let set : State := { s with params := t.params }
            let silent (i : Station) : Prop := (s.station i).link = .up ∧
              ∃ h, (s.station i).lastHeard = some h ∧ w.u32 1 < (s.clock - h).toNat
            let stays (i : Station) : Prop := ∃ l, (s.station i).link = .lost l false ∧ w.u32 1 ≤ (s.clock - l).toNat
            (id ≠ 5 ∧ id ≠ 6 ∧ id ≠ 7 ∨ id = 5 ∧ (∀ i, ¬silent i) ∨ id = 6 ∧ (∀ i, ¬stays i) →
              t = { set with supervisor := t.supervisor }) ∧
            (id = 5 →
              (∀ i, silent i → t.station i = { s.station i with link := .lost s.clock false } ∧
                t.attOf .stockOut (.station i) = none ∧
                (s.attOf .linkLost (.station i) = none →
                  t.attOf .linkLost (.station i) = some ⟨.linkLost, .station i, 0, 1, s.clock, false⟩)) ∧
              (∀ i, ¬silent i → t.station i = s.station i ∧ ∀ c, t.attOf c (.station i) = s.attOf c (.station i)) ∧
              t = { set with stations := t.stations, attention := t.attention, supervisor := t.supervisor }) ∧
            (id = 6 →
              (∀ i, ¬stays i → (t.station i).link = (s.station i).link) ∧
              (∀ i, stays i → ∃ l, (s.station i).link = .lost l false ∧ (t.station i).link = .lost l true) ∧
              (∀ i, (∀ x, stays x ↔ x = i) → ∃ u, exec (.reservationHold i) set = .next u ∧
                t = { u with supervisor := t.supervisor }) ∧
              (s.OneJobOfAKind → s.NumbersOnce → ∀ i, stays i → ∀ j ∈ t.queue, j.station = i → j.kind = .bar →
                j.slot = none)))))

/-- STATION_PARAM: T_s and the present flag read and set; clearing the flag is refused BUSY unless the link is DETACHED and
the station has no job, and takes the station out of the hold mask (R47, R102, R195). -/
def Obligations.StationParametersReadBack : Prop :=
  ∀ (s : State) (w : Write), w.lenOk [2, 6] = true →
    (w.u8 0 < 1 ∨ 12 < w.u8 0 → exec (.stationParamRead w) s = .next (s.refuse w .range 1) ∧
      exec (.stationParamWrite w) s = .next (s.refuse w .range 1)) ∧
    (∀ i : Station, w.u8 0 = i.val + 1 →
      (w.u8 1 < 1 ∨ 2 < w.u8 1 → exec (.stationParamRead w) s = .next (s.refuse w .range 2) ∧
        exec (.stationParamWrite w) s = .next (s.refuse w .range 2)) ∧
      (w.u8 1 = 1 →
        (w.len = 2 → exec (.stationParamRead w) s =
          .next (s.data w ([nat8 (i.val + 1), 1] ++ nat32 (s.station i).travel))) ∧
        (w.len = 6 → w.u32 2 < 10 ∨ 3000 < w.u32 2 → exec (.stationParamWrite w) s = .next (s.refuse w .range 3)) ∧
        (w.len = 6 → 10 ≤ w.u32 2 → w.u32 2 ≤ 3000 → exec (.stationParamWrite w) s =
          .next ((s.setStation i { s.station i with travel := w.u32 2 }).ok w []))) ∧
      (w.u8 1 = 2 →
        (w.len = 2 → exec (.stationParamRead w) s =
          .next (s.data w ([nat8 (i.val + 1), 2] ++ nat32 (if (s.station i).present then 1 else 0)))) ∧
        (w.len = 6 → 1 < w.u32 2 → exec (.stationParamWrite w) s = .next (s.refuse w .range 3)) ∧
        (w.len = 6 → w.u32 2 = 1 → exec (.stationParamWrite w) s =
          .next ((s.setStation i { s.station i with present := true }).ok w [])) ∧
        (w.len = 6 → w.u32 2 = 0 → (s.station i).link ≠ .detached ∨ (∃ j ∈ s.jobs, j.station = i) →
          ∃ f, exec (.stationParamWrite w) s = .next (s.refuse w .busy f)) ∧
        (w.len = 6 → w.u32 2 = 0 → (s.station i).link = .detached → (∀ j ∈ s.jobs, j.station ≠ i) →
          exec (.stationParamWrite w) s = .next ((({ s with arbiter := { s.arbiter with
            holdMask := s.arbiter.holdMask &&& ~~~(BitVec.twoPow 12 i.val) } } : State).setStation i
              { s.station i with present := false }).ok w []))))

/-- ARBITER_ORDER sets an order that names each bay once and the three rotation flags, and changes nothing else; another
order, or other flag bits, is refused RANGE (R104, R198; which field is charged is notes/assumptions/11.md). HALL_HOLD
sets the level; only a level that blocks fewer classes gives a dispatch evaluation; another value is refused RANGE (R101,
R106). -/
def Obligations.DispatchSettingsAreSet : Prop :=
  (∀ (s : State) (w : Write), w.lenOk [4] = true →
     (∀ b1 b2 b3 : Bay, b1 ≠ b2 → b1 ≠ b3 → b2 ≠ b3 → w.u8 0 = b1.code → w.u8 1 = b2.code → w.u8 2 = b3.code →
       w.u8 3 < 8 → exec (.arbiterOrder w) s = .next (({ s with arbiter := { s.arbiter with
         first := b1, second := b2, third := b3
         bayA := ⟨(w.u8 3).testBit 0, s.arbiter.bayA.pointer⟩
         bayB := ⟨(w.u8 3).testBit 1, s.arbiter.bayB.pointer⟩
         bayC := ⟨(w.u8 3).testBit 2, s.arbiter.bayC.pointer⟩ } } : State).ok w [])) ∧
     ((¬∃ b1 b2 b3 : Bay, b1 ≠ b2 ∧ b1 ≠ b3 ∧ b2 ≠ b3 ∧ w.u8 0 = b1.code ∧ w.u8 1 = b2.code ∧ w.u8 2 = b3.code) ∨
       8 ≤ w.u8 3 → ∃ f, exec (.arbiterOrder w) s = .next (s.refuse w .range f))) ∧
  (∀ (s : State) (w : Write), s.dispatchDue = false → w.lenOk [1] = true →
     (2 < w.u8 0 → exec (.hallHold w) s = .next (s.refuse w .range 1)) ∧
     (∀ l : HoldLevel, w.u8 0 = l.code →
       (s.arbiter.hold.code ≤ l.code →
         exec (.hallHold w) s = .next (({ s with arbiter := { s.arbiter with hold := l } } : State).ok w [])) ∧
       (l.code < s.arbiter.hold.code →
         exec (.hallHold w) s = .next ((({ s with arbiter := { s.arbiter with hold := l } } : State).evaluate).ok w []))))

/-- The station masks of STATION_HOLD and STATION_RESTART (R193): the action first; any of bits 12 to 15 refused BAD_MASK; a
mask that names no station answered OK with nothing changed; a named station that is not present refused NOT_PRESENT with
the lowest such number. HOLD adds the named stations to the hold mask and RELEASE removes them; the answer carries the
mask after the change; only a RELEASE that removes a station gives a dispatch evaluation (R102, R106). -/
def Obligations.StationMasksAreCheckedAndApplied : Prop :=
  (∀ (s : State) (w : Write), s.dispatchDue = false →
     (w.lenOk [3] = true →
       (w.u8 0 < 1 ∨ 2 < w.u8 0 → exec (.stationHold w) s = .next (s.refuse w .range 1) ∧
         exec (.stationHoldRelease w) s = .next (s.refuse w .range 1)) ∧
       (w.u8 0 = 1 ∨ w.u8 0 = 2 →
         (4096 ≤ (w.mask16 1).toNat → ∃ f, exec (.stationHold w) s = .next (s.refuse w .badMask f) ∧
           exec (.stationHoldRelease w) s = .next (s.refuse w .badMask f)) ∧
         (w.mask16 1 = 0 → exec (.stationHold w) s = .next (s.ok w (nat16 s.arbiter.holdMask.toNat)) ∧
           exec (.stationHoldRelease w) s = .next (s.ok w (nat16 s.arbiter.holdMask.toNat))) ∧
         (∀ i : Station, (w.mask16 1).toNat < 4096 → (w.mask16 1).getLsbD i.val = true → (s.station i).present = false →
           (∀ j : Station, j < i → (w.mask16 1).getLsbD j.val = true → (s.station j).present = true) →
           exec (.stationHold w) s = .next (s.refuse w .notPresent (i.val + 1)) ∧
           exec (.stationHoldRelease w) s = .next (s.refuse w .notPresent (i.val + 1))))) ∧
     (w.lenOk [2] = true →
       (4096 ≤ (w.mask16 0).toNat → ∃ f, exec (.stationRestart w) s = .next (s.refuse w .badMask f)) ∧
       (w.mask16 0 = 0 → exec (.stationRestart w) s = .next (s.ok w [])) ∧
       (∀ i : Station, (w.mask16 0).toNat < 4096 → (w.mask16 0).getLsbD i.val = true → (s.station i).present = false →
         (∀ j : Station, j < i → (w.mask16 0).getLsbD j.val = true → (s.station j).present = true) →
         exec (.stationRestart w) s = .next (s.refuse w .notPresent (i.val + 1))))) ∧
  (∀ (s : State) (w : Write), s.dispatchDue = false → w.lenOk [3] = true → (w.mask16 1).toNat < 4096 →
     (∀ i : Station, (w.mask16 1).getLsbD i.val = true → (s.station i).present = true) →
     let mask := (w.mask16 1).truncate 12
     (w.u8 0 = 1 → exec (.stationHold w) s = .next (({ s with arbiter := { s.arbiter with
       holdMask := s.arbiter.holdMask ||| mask } } : State).ok w (nat16 (s.arbiter.holdMask ||| mask).toNat))) ∧
     (w.u8 0 = 2 →
       let s1 : State := { s with arbiter := { s.arbiter with holdMask := s.arbiter.holdMask &&& ~~~mask } }
       (s.arbiter.holdMask &&& mask = 0 → exec (.stationHoldRelease w) s =
         .next (s1.ok w (nat16 (s.arbiter.holdMask &&& ~~~mask).toNat))) ∧
       (s.arbiter.holdMask &&& mask ≠ 0 → exec (.stationHoldRelease w) s =
         .next (s1.evaluate.ok w (nat16 (s.arbiter.holdMask &&& ~~~mask).toNat)))))

/-! ### The stations -/

/-- The link decides first. A port whose station is not present takes no frame (R47). In DETACHED every request but HELLO is
refused WRONG_STATE with field index 0 (R52), and an unknown TYPE UNKNOWN_TYPE; UP, an unknown TYPE is refused likewise and
moves nothing but the last-heard time (R186). HELLO in DETACHED attaches: the link is UP, the bar state as it was, and a
station that has a tote with room posts nothing (R48). -/
def Obligations.TheLinkDecidesFirst : Prop :=
  ∀ (s : State) (i : Station),
    ((s.station i).present = false → ∀ c, requestOf c = some i →
      exec c s = .next (s.setStation i { s.station i with rx := .hunt })) ∧
    (s.dispatchDue = false → (s.station i).present = true → (s.station i).link = .detached →
      (∀ c type, requestOf c = some i → attachedType c = some type →
        exec c s = .next (s.setStation i ((s.station i).answered s.clock ⟨0x41#8, [type, 1#8, 0#8]⟩))) ∧
      (∀ n, (s.station i).spindle = .unset → (s.station i).tote = .filling n →
        exec (.hello i) s = .next (s.setStation i { (s.station i).answered s.clock ⟨0x40#8, [0x01#8]⟩ with link := .up }))) ∧
    (s.dispatchDue = false → (s.station i).present = true → (s.station i).link.isLost = false → ∀ type,
      exec (.unknownType i type) s =
        .next (s.setStation i ((s.station i).answered s.clock ⟨0x41#8, [type, 6#8, 0#8]⟩)))

/-- A station that attaches without a tote is told to hold, twice, and posts a TOTE_PLACE of class 1, which in COMMISSION
waits in the queue (R48, R77, R78, R95). -/
def Obligations.AttachingWithoutAToteAsksForOne : Prop :=
  ∀ (s : State) (i : Station), s.dispatchDue = false → (s.station i).present = true → (s.station i).link = .detached →
    (s.station i).spindle = .unset → (s.station i).tote = .noTote → s.supervisor.mode = .commission →
    (∀ j ∈ s.jobs, ¬(j.station = i ∧ j.kind ≠ .bar)) →
    ∃ t, exec (.hello i) s = .next t ∧
      t.station i = { s.station i with
        link := .up, lastHeard := some s.clock, rx := .hunt
        tx := (s.station i).tx ++ [⟨0x40#8, [0x01#8]⟩, ⟨0x63#8, [2#8]⟩, ⟨0x63#8, [2#8]⟩] } ∧
      (∀ j, j ≠ i → t.station j = s.station j) ∧
      t.queue = s.queue ++ [{ number := s.freshNumber, kind := .place, station := i, cls := 1, posted := s.clock, pass := 0,
                              slot := none, backoff := none, deferral := 0 }] ∧
      t = { s with
        stations := t.stations, queue := t.queue, jobCounter := s.freshNumber, attention := t.attention }

/-- A valid frame other than HELLO from a LOST station returns the link to UP, removes LINK_LOST and informs the dispatcher
before the frame is acted upon; the frame is then taken as from an UP station (R50). -/
def Obligations.ALostLinkReturnsBeforeTheFrame : Prop :=
  ∀ (s : State) (i : Station) (c : Instr) (since : Time) (taken : Bool), requestOf c = some i → c ≠ .hello i →
    (s.station i).present = true → (s.station i).link = .lost since taken →
    let r := (s.heard i).linkReturn i
    exec c s = exec c r ∧ (r.station i).link = .up ∧ (r.station i).lastHeard = some s.clock ∧ r.dispatchDue = true ∧
      r.attOf .linkLost (.station i) = none ∧
      (∀ j k b, s.queuedOf true i = some j → j.slot = none → s.pick i = some (k, b) → r.slot k = .reserved b j.number)

/-- What a restart clears and what it keeps, for a station without a job: HELLO UP or LOST, DETACH, STATION_RESTART (R64,
R65, R66, R152, R197). The tote here has room, so that the tote attach evaluation of an UP station does nothing. With jobs
of its own queued, a detached station's are removed from the queue, and the parts kept are kept all the same. -/
def Obligations.ARestartClearsTheStation : Prop :=
  ∀ (s : State) (i : Station), s.dispatchDue = false → (s.station i).present = true →
    let cleared (r : StationRec) (l : Link) : StationRec := { r with
      link := l, spindle := .unset, ring := [], lastPart := none, drift := 0, driftFlag := false, handoff := none
      zone := if r.zone = .inUse then .inUse else .closed }
    let kept : List AttRec := s.attention.filter fun a => decide (a.scope ≠ .station i)
    ((∀ j ∈ s.jobs, j.station ≠ i) →
      (∀ n, (s.station i).tote = .filling n → (s.station i).link ≠ .detached →
        exec (.hello i) s = .next (({ s with attention := kept } : State).setStation i
          (cleared ((s.station i).answered s.clock ⟨0x40#8, [0x01#8]⟩) .up))) ∧
      ((s.station i).link = .up →
        exec (.detach i) s = .next (({ s with attention := kept } : State).setStation i
          (cleared ((s.station i).answered s.clock ⟨0x40#8, [0x09#8]⟩) .detached))) ∧
      (∀ (w : Write) (n : Nat), w.lenOk [2] = true → w.mask16 0 = BitVec.twoPow 16 i.val → (s.station i).tote = .filling n →
        exec (.stationRestart w) s = .next ((({ s with attention := kept } : State).setStation i
          (cleared (s.station i) (if (s.station i).link = .up then .up else .detached))).ok w []))) ∧
    ((s.station i).link = .up → ∃ t, exec (.detach i) s = .next t ∧ (∀ j ∈ t.queue, j.station ≠ i) ∧
      (t.station i).link = .detached ∧ (t.station i).spindle = .unset ∧ (t.station i).cradle = (s.station i).cradle ∧
      (t.station i).tote = (s.station i).tote ∧ (t.station i).totalParts = (s.station i).totalParts ∧
      (t.station i).totalRemnant = (s.station i).totalRemnant ∧ (t.station i).barsConsumed = (s.station i).barsConsumed ∧
      (t.station i).travel = (s.station i).travel ∧ (t.station i).errors = (s.station i).errors ∧
      (∀ a ∈ t.attention, a.scope ≠ .station i) ∧
      ∃ rest, (t.station i).tx = (s.station i).tx ++ [⟨0x40#8, [0x09#8]⟩] ++ rest)

/-- A station silent for more than the link timeout becomes LOST with LINK_LOST raised and STOCK_OUT removed, and not before
(R49); LOST for the reservation hold time it gives up, once, the reservation of its queued BAR job, here with no other
job that the bar suits (R14, R51). That nothing happens before the time is notes/assumptions/3.md. -/
def Obligations.SilenceLosesTheLinkAndThenTheBar : Prop :=
  ∀ (s : State) (i : Station),
    ((s.station i).link = .up → ∀ h, (s.station i).lastHeard = some h →
      (s.params.linkTimeout < (s.clock - h).toNat → exec (.linkTimeout i) s =
        .next (((s.setStation i { s.station i with link := .lost s.clock false }).raiseCondition .linkLost
          (.station i) 0).endCondition .stockOut (.station i))) ∧
      ((s.clock - h).toNat ≤ s.params.linkTimeout → exec (.linkTimeout i) s = .next s)) ∧
    ((s.station i).link ≠ .up → exec (.linkTimeout i) s = .next s) ∧
    (∀ since, s.dispatchDue = false → (s.station i).link = .lost since false →
      let held := s.setStation i { s.station i with link := .lost since true }
      ((s.clock - since).toNat < s.params.resHold → exec (.reservationHold i) s = .next s) ∧
      (s.params.resHold ≤ (s.clock - since).toNat →
        ((∀ j ∈ s.queue, j.station = i → j.kind = .bar → j.slot = none) → exec (.reservationHold i) s = .next held) ∧
        (∀ j k b n, s.queuedOf true i = some j → j.slot = some k → s.slot k = .reserved b n →
          (∀ q ∈ s.queue, ¬(s.waits none q = true ∧ s.qualifies q.station b = true)) →
          exec (.reservationHold i) s = .next ((held.setSlot k (.ready b)).setQueue
            (s.queue.map fun q => if q.number = j.number then { q with slot := none } else q))))) ∧
    ((∀ since, (s.station i).link ≠ .lost since false) → exec (.reservationHold i) s = .next s)

/-- SETUP is refused by the first check of R57 that fails, with its reason and field index, and then changes nothing: a
changed stock code while an account is present, the ranges in index order, the pitch, the feasibility. An accepted one is
answered ACK and held with its figures as sent but C_d clamped to 1..6,000, G to 0..15 and E to 0..Q − 1; the cycle ring is
emptied, the last PART_OFF time absent, the drift count 0 and the drift flag clear (R58). -/
def Obligations.SetupIsRefusedByItsFirstFailingCheck : Prop :=
  ∀ (s : State) (i : Station) (f : SetupFields) (reason field : Byte), s.UpAt i →
    let changed : Bool :=
      match (s.station i).spindle.account?, (s.station i).spindle.setup? with
      | some _, some u => decide (¬(f.material.toNat = u.stock.material ∧ f.shape.toNat = u.stock.shape.code ∧
          f.size.toNat = u.stock.size))
      | _, _ => false
    let verdict : Option (Byte × Byte) :=
      if changed = true then some (1, 0)
      else if f.material.toNat < 1 ∨ 1023 < f.material.toNat then some (2, 1)
      else if f.shape.toNat < 1 ∨ 3 < f.shape.toNat then some (2, 2)
      else if f.size.toNat < 20 ∨ 1000 < f.size.toNat then some (2, 3)
      else if f.partLen.toNat < 100 ∨ 200000 < f.partLen.toNat then some (2, 4)
      else if 1500 < f.cutOff.toNat then some (2, 5)
      else if 3000 < f.facing.toNat then some (2, 6)
      else if f.remnant.toNat < 2000 ∨ 200000 < f.remnant.toNat then some (2, 7)
      else if f.capacity.toNat < 1 ∨ 999 < f.capacity.toNat then some (2, 10)
      else if 200000 < f.partLen.toNat + f.cutOff.toNat then some (2, 5)
      else if 400000 < f.facing.toNat + f.remnant.toNat + f.partLen.toNat + f.cutOff.toNat then some (3, 0)
      else none
    (verdict = some (reason, field) → exec (.setup i f) s =
      .next (s.setStation i ((s.station i).answered s.clock ⟨0x41#8, [0x02#8, reason, field]⟩))) ∧
    (verdict = none → ∃ t u rest, exec (.setup i f) s = .next t ∧ (t.station i).spindle.setup? = some u ∧
      (t.station i).tx = (s.station i).tx ++ [⟨0x40#8, [0x02#8]⟩] ++ rest ∧
      u.partLen = f.partLen.toNat ∧ u.cutOff = f.cutOff.toNat ∧ u.facing = f.facing.toNat ∧
      u.remnant = f.remnant.toNat ∧ u.capacity = f.capacity.toNat ∧ u.stock.material = f.material.toNat ∧
      u.stock.shape.code = f.shape.toNat ∧ u.stock.size = f.size.toNat ∧
      u.cycle = max 1 (min f.cycle.toNat 6000) ∧ u.margin = min f.margin.toNat 15 ∧
      u.exchange = min f.exchange.toNat (f.capacity.toNat - 1) ∧ (t.station i).ring = [] ∧
      (t.station i).lastPart = none ∧ (t.station i).drift = 0 ∧ (t.station i).driftFlag = false)

/-- An accepted SETUP (R58). A first one takes an UNSET station to NO_BAR with a bar in its cradle, and with an empty cradle to STARVED with a class
0 BAR job posted, which selects a bar or raises STOCK_OUT; in COMMISSION nothing is dispatched (R13, R17, R53, R58,
R95). A later one, where the tote has room: with an account N is recomputed and the lead evaluated (R42); in NO_BAR beside
a cradle bar the station stays so; a queued BAR job keeps a bar that still suits under the same stock code, and otherwise
its bar is released and it selects anew, or raises STOCK_OUT (R15; here no other waiting job takes the released bar). The
new Q and E reach the tote in every bar state: OVERFILL for the excess, the tote cut to Q, FULL at Q, and evaluated (R79).
That a STOCK_OUT record already standing keeps its old detail when the SETUP changes the material is the model's reading of
R17 and R174 (notes/assumptions/27.md). -/
def Obligations.AFirstSetupWaitsForLoadOrStarves : Prop :=
  (∀ (s : State) (i : Station) (f : SetupFields) (u : Setup) (n : Nat), s.UpAt i → (s.station i).spindle = .unset →
      setupRefusal .unset f = none → setupOf f = some u → (s.station i).tote = .filling n → n < u.capacity - u.exchange →
      let base : StationRec := { (s.station i).answered s.clock ⟨0x40#8, [0x02#8]⟩ with
        ring := [], lastPart := none, drift := 0, driftFlag := false }
      (∀ b, (s.station i).cradle = some b →
        exec (.setup i f) s = .next (s.setStation i { base with spindle := .noBar u })) ∧
      ((s.station i).cradle = none → s.supervisor.mode = .commission → (∀ j ∈ s.jobs, ¬(j.station = i ∧ j.kind = .bar)) →
        (∀ j ∈ s.queue, j.number ≠ s.freshNumber) →
        let s1 := s.setStation i { base with spindle := .starved u }
        let job : Job := { number := s.freshNumber, kind := .bar, station := i, cls := 0, posted := s.clock, pass := 0,
                           slot := none, backoff := none, deferral := 0 }
        (∀ k b, s1.pick i = some (k, b) → exec (.setup i f) s = .next (({ s1 with
            queue := s.queue ++ [{ job with slot := some k }]
            jobCounter := s.freshNumber } : State).setSlot k (.reserved b s.freshNumber) |>.endCondition .stockOut
              (.station i))) ∧
        (s1.pick i = none → exec (.setup i f) s = .next (({ s1 with
            queue := s.queue ++ [job]
            jobCounter := s.freshNumber } : State).raiseCondition .stockOut (.station i) u.stock.material)))) ∧
  (∀ (s : State) (i : Station) (f : SetupFields) (u u0 : Setup) (n : Nat), s.UpAt i →
     (s.station i).spindle.setup? = some u0 → setupRefusal (s.station i).spindle f = none → setupOf f = some u →
     (s.station i).tote = .filling n → n < u.capacity - u.exchange →
     let base (p : Spindle) : StationRec := { (s.station i).answered s.clock ⟨0x40#8, [0x02#8]⟩ with
       ring := [], lastPart := none, drift := 0, driftFlag := false, spindle := p }
     let suits (j : Job) : Prop := ∃ k b m, j.slot = some k ∧ s.slot k = .reserved b m ∧ u.stock = u0.stock ∧
       b.stock = u.stock ∧ u.facing + u.remnant + (u.partLen + u.cutOff) ≤ b.length
     let slotted (p : Spindle) (j : Job) (k : Option SlotIx) : State := ({ s with
       queue := s.queue.map fun q => if q.number = j.number then { q with slot := k } else q } : State).setStation i (base p)
     let anew (p : Spindle) (j : Job) (freed : State → State) : Prop :=
       (∀ k' b', (freed (slotted p j none)).pick i = some (k', b') → exec (.setup i f) s =
         .next (State.evaluate (((freed (slotted p j (some k'))).setSlot k' (.reserved b' j.number)).endCondition .stockOut
           (.station i)))) ∧
       ((freed (slotted p j none)).pick i = none → exec (.setup i f) s =
         .next ((freed (slotted p j none)).raiseCondition .stockOut (.station i) u.stock.material))
     let reselects (p : Spindle) (j : Job) : Prop := (∀ q ∈ s.queue, q.number = j.number → q = j) →
       (j.slot = none → anew p j id) ∧
       (∀ k b m, j.slot = some k → s.slot k = .reserved b m → ¬suits j →
         (∀ q ∈ s.queue, q.number ≠ j.number →
           ¬(s.waits none q = true ∧ (s.setStation i (base p)).qualifies q.station b = true)) →
         anew p j fun x => x.setSlot k (.ready b))
     (∀ acc, (s.station i).spindle.account? = some acc →
       let acc' : Account := { acc with partsLeft :=
         if u.remnant + (u.partLen + u.cutOff) ≤ acc.rem then (acc.rem - u.remnant) / (u.partLen + u.cutOff) else 0 }
       let held := s.setStation i (base (((s.station i).spindle.withSetup u).withAccount acc'))
       ((∀ j, s.queuedOf true i = some j → suits j) → exec (.setup i f) s = .next (held.leadEvaluate i).settle) ∧
       (∀ j, (s.station i).spindle.barState = .low → s.queuedOf true i = some j →
         reselects ((held.leadEvaluate i).station i).spindle j)) ∧
     (∀ b, (s.station i).spindle = .noBar u0 → (s.station i).cradle = some b → s.queuedOf true i = none →
       exec (.setup i f) s = .next (s.setStation i (base (.noBar u)))) ∧
     (∀ j, (s.station i).spindle = .starved u0 → s.queuedOf true i = some j →
       (suits j → exec (.setup i f) s = .next (s.setStation i (base (.starved u)))) ∧ reselects (.starved u) j) ∧
     ((s.station i).spindle = .starved u0 → s.queuedOf true i = none → s.hasJob true i = true →
       exec (.setup i f) s = .next (s.setStation i (base (.starved u))))) ∧
  (∀ (s : State) (i : Station) (f : SetupFields) (u : Setup), s.UpAt i → setupRefusal (s.station i).spindle f = none →
     setupOf f = some u →
     let fill := (s.station i).tote.fill
     let lead := u.capacity - u.exchange
     ∃ t, exec (.setup i f) s = .next t ∧
       (u.capacity < fill → ∃ x, t.attOf .overfill (.station i) = some x ∧ x.detail = min (fill - u.capacity) 65535 ∧
         x.last = s.clock) ∧
       (fill ≤ u.capacity → t.attOf .overfill (.station i) = s.attOf .overfill (.station i)) ∧
       ((s.station i).tote = .noTote → (t.station i).tote = .noTote) ∧
       (∀ n, (s.station i).tote = .full n → (t.station i).tote = .full (min n u.capacity)) ∧
       (∀ n, (s.station i).tote = .filling n ∨ (s.station i).tote = .due n → u.capacity ≤ n →
         (t.station i).tote = .full u.capacity) ∧
       (∀ n, (s.station i).tote = .filling n → n < u.capacity →
         (t.station i).tote = if lead ≤ n then .due n else .filling n) ∧
       (∀ n, (s.station i).tote = .due n → n < u.capacity →
         (t.station i).tote = if s.hasToteJob i = true ∨ lead ≤ n then .due n else .filling n) ∧
       (s.supervisor.mode = .commission ∨ s.shuttle ≠ .idle → ∀ n, (t.station i).tote ≠ .filling n →
         t.hasToteJob i = true))

/-- LOAD: refused WRONG_STATE outside NO_BAR and STARVED, RANGE for a measured length above 400,000, NO_CRADLE_BAR with an
empty cradle (R59). Taken, it opens the account from the cradle bar, with a measured length no more than T_len above the
recorded one put in its place, and LENGTH_MISMATCH for a longer one; here N is above the lead, so nothing is posted
(R22, R23, R24, R38). -/
def Obligations.LoadOpensTheAccount : Prop :=
  ∀ (s : State) (i : Station) (m : Option (BitVec 32)), s.UpAt i →
    ((s.station i).spindle = .unset ∨ (s.station i).spindle.account?.isSome = true →
      exec (.load i m) s = .next (s.setStation i ((s.station i).answered s.clock ⟨0x41#8, [0x03#8, 1#8, 0#8]⟩))) ∧
    (∀ u, (s.station i).spindle = .noBar u ∨ (s.station i).spindle = .starved u →
      (∀ v, m = some v → 400000 < v.toNat →
        exec (.load i m) s = .next (s.setStation i ((s.station i).answered s.clock ⟨0x41#8, [0x03#8, 2#8, 1#8]⟩))) ∧
      ((∀ v, m = some v → v.toNat ≤ 400000) → (s.station i).cradle = none →
        exec (.load i m) s = .next (s.setStation i ((s.station i).answered s.clock ⟨0x41#8, [0x03#8, 4#8, 0#8]⟩))) ∧
      (∀ b, (∀ v, m = some v → v.toNat ≤ 400000) → (s.station i).cradle = some b →
        let length := match m with
          | none => b.length
          | some v => if v.toNat ≤ b.length + s.params.lengthTol then v.toNat else b.length
        let rem := length - u.facing
        let pitch := u.partLen + u.cutOff
        let left := if u.remnant + pitch ≤ rem then (rem - u.remnant) / pitch else 0
        let ahead := (s.queue.filter fun j => decide (j.station ≠ i) && decide (j.cls ≤ 1)).length
        let delivery := (s.station i).travel + ahead * s.params.jobTime
        let lead := max 1 (min ((delivery + (s.station i).cAvg - 1) / (s.station i).cAvg + u.margin) 63)
        let raised := match m with
          | some v => if b.length + s.params.lengthTol < v.toNat then
              s.raiseEvent .lengthMismatch (.station i) (v.toNat - b.length) else s
          | none => s
        lead < left →
        exec (.load i m) s = .next (raised.setStation i { (s.station i).answered s.clock ⟨0x40#8, [0x03#8]⟩ with
          cradle := none
          lastPart := none
          spindle := .running u { bar := { b with length := length }, rem := rem, made := 0, partsLeft := left,
                                  lead := lead, inexact := false } })))

/-- PART_OFF: refused WRONG_STATE without an account, RANGE for a scrap flag above 1 or an advance above 400,000; a count not
above parts made is a repeat, answered ACK with nothing taken (R25, R184). -/
def Obligations.PartOffIsRefusedOrARepeat : Prop :=
  ∀ (s : State) (i : Station) (count : BitVec 16) (scrap : Byte) (a : Option (BitVec 32)), s.UpAt i →
    ((s.station i).spindle.account? = none → exec (.partOff i count scrap a) s =
      .next (s.setStation i ((s.station i).answered s.clock ⟨0x41#8, [0x04#8, 1#8, 0#8]⟩))) ∧
    (∀ acc, (s.station i).spindle.account? = some acc →
      (1 < scrap.toNat → exec (.partOff i count scrap a) s =
        .next (s.setStation i ((s.station i).answered s.clock ⟨0x41#8, [0x04#8, 2#8, 2#8]⟩))) ∧
      (∀ v, a = some v → scrap.toNat ≤ 1 → 400000 < v.toNat → exec (.partOff i count scrap a) s =
        .next (s.setStation i ((s.station i).answered s.clock ⟨0x41#8, [0x04#8, 2#8, 3#8]⟩))) ∧
      ((∀ v, a = some v → v.toNat ≤ 400000) → scrap.toNat ≤ 1 → count.toNat ≤ acc.made →
        exec (.partOff i count scrap a) s =
          .next (s.setStation i ((s.station i).answered s.clock ⟨0x40#8, [0x04#8]⟩))))

/-- A taken PART_OFF: the missing parts are debited at the pitch and the carried part by its advance held to the window, each
floored at 0; parts made becomes the count; N follows rem; the inexact flag and ACCOUNT_INEXACT mark a gap, a floored
debit and a part taken in ENDING; the drift count and flag follow the advance; the interval is ringed by R35; total parts
rise by all the parts (R26 to R35). Bar, cradle, statistics of bars, setup, zone and the other stations' records, but for
notices, stay. -/
def Obligations.PartOffDebitsTheAccount : Prop :=
  ∀ (s : State) (i : Station) (count : BitVec 16) (scrap : Byte) (a : Option (BitVec 32)) (u : Setup) (acc : Account),
    s.UpAt i → (s.station i).spindle.setup? = some u → (s.station i).spindle.account? = some acc → scrap.toNat ≤ 1 →
    (∀ v, a = some v → v.toNat ≤ 400000) → acc.made < count.toNat →
    let r := s.station i
    let pitch := u.partLen + u.cutOff
    let tol := s.params.advanceTol
    let missing := count.toNat - acc.made - 1
    let debit := match a with
      | none => pitch
      | some v => if v.toNat + tol < pitch then pitch - tol else if pitch + tol < v.toNat then pitch + tol else v.toNat
    let before := acc.rem - missing * pitch
    let left := if u.remnant + pitch ≤ before - debit then (before - debit - u.remnant) / pitch else 0
    let cause := 0 < missing ∨ before < debit ∨ r.spindle.barState = .ending
    let outside := ∃ v, a = some v ∧ (v.toNat + tol < pitch ∨ pitch + tol < v.toNat)
    ∃ t acc', exec (.partOff i count scrap a) s = .next t ∧ (t.station i).spindle.account? = some acc' ∧
      (t.station i).spindle.setup? = some u ∧ acc'.bar = acc.bar ∧ acc'.made = count.toNat ∧
      acc'.rem = before - debit ∧ acc'.partsLeft = left ∧ (acc'.inexact = true ↔ acc.inexact = true ∨ cause) ∧
      1 ≤ acc'.lead ∧ acc'.lead ≤ 63 ∧
      (cause → ∃ x, t.attOf .accountInexact (.station i) = some x ∧ x.detail = count.toNat ∧ x.last = s.clock) ∧
      (¬cause → t.attOf .accountInexact (.station i) = s.attOf .accountInexact (.station i)) ∧
      (t.station i).lastPart = some s.clock ∧
      (r.lastPart = none → (t.station i).ring = r.ring) ∧
      (∀ l, r.lastPart = some l →
        let iv := max 1 (s.clock - l).toNat
        (6000 < iv ∨ r.ring.length = 4 ∧ 3 * r.cAvg < iv → (t.station i).ring = r.ring) ∧
        (¬(6000 < iv ∨ r.ring.length = 4 ∧ 3 * r.cAvg < iv) → r.ring.length ≤ 4 →
          (t.station i).ring = (if r.ring.length = 4 then r.ring.drop 1 else r.ring) ++ [iv])) ∧
      (a = none → (t.station i).drift = r.drift ∧ (t.station i).driftFlag = r.driftFlag) ∧
      (∀ v, a = some v → ¬outside → (t.station i).drift = 0 ∧ (t.station i).driftFlag = false) ∧
      (outside → r.drift ≠ 2 → (t.station i).drift = r.drift + 1 ∧ (t.station i).driftFlag = r.driftFlag) ∧
      (outside → r.drift = 2 → (t.station i).drift = 0 ∧ (t.station i).driftFlag = true ∧
        ∃ x, t.attOf .feedDrift (.station i) = some x ∧ x.last = s.clock ∧
          ∀ v, a = some v → x.detail = min v.toNat 65535) ∧
      (t.station i).totalParts = min (r.totalParts + (missing + 1)) 4294967295 ∧
      (t.station i).totalRemnant = r.totalRemnant ∧ (t.station i).barsConsumed = r.barsConsumed ∧
      (t.station i).cradle = r.cradle ∧ (t.station i).zone = r.zone ∧ (t.station i).link = .up ∧
      (t.station i).lastHeard = some s.clock ∧ (∃ rest, (t.station i).tx = r.tx ++ [⟨0x40#8, [0x04#8]⟩] ++ rest) ∧
      (∀ j, j ≠ i → { t.station j with tx := [] } = { s.station j with tx := [] }) ∧ t.load = s.load ∧
      t.supervisor = s.supervisor ∧ t.pool.empties = s.pool.empties ∧ t.pool.outFull = s.pool.outFull

/-- BAR_END: refused WRONG_STATE without an account and RANGE above 400,000 (R56, R60). Taken with a bar in the cradle it
compares the remnant, counts remnant and bar, closes the account and leaves NO_BAR (R60, R61); with an empty cradle the
station's queued BAR job is raised to class 0 and the station STARVED (R53, R61), in COMMISSION without a dispatch. -/
def Obligations.BarEndClosesTheAccount : Prop :=
  ∀ (s : State) (i : Station) (m : Option (BitVec 32)), s.UpAt i →
    ((s.station i).spindle.account? = none → exec (.barEnd i m) s =
      .next (s.setStation i ((s.station i).answered s.clock ⟨0x41#8, [0x05#8, 1#8, 0#8]⟩))) ∧
    (∀ u acc, (s.station i).spindle.setup? = some u → (s.station i).spindle.account? = some acc →
      (∀ v, m = some v → 400000 < v.toNat → exec (.barEnd i m) s =
        .next (s.setStation i ((s.station i).answered s.clock ⟨0x41#8, [0x05#8, 2#8, 1#8]⟩))) ∧
      ((∀ v, m = some v → v.toNat ≤ 400000) →
        let diff (v : Nat) := max v acc.rem - min v acc.rem
        let raised := match m with
          | some v => if s.params.lengthTol < diff v.toNat then
              s.raiseEvent .lengthMismatch (.station i) (diff v.toNat) else s
          | none => s
        let left := match m with
          | some v => v.toNat
          | none => acc.rem
        let ended : StationRec := { (s.station i).answered s.clock ⟨0x40#8, [0x05#8]⟩ with
          totalRemnant := min ((s.station i).totalRemnant + left) 4294967295
          barsConsumed := min ((s.station i).barsConsumed + 1) 4294967295 }
        (∀ b, (s.station i).cradle = some b →
          exec (.barEnd i m) s = .next (raised.setStation i { ended with spindle := .noBar u })) ∧
        (∀ j, (s.station i).cradle = none → s.queuedOf true i = some j → (∀ q ∈ s.queue, q.number = j.number → q = j) →
          s.supervisor.mode = .commission →
          exec (.barEnd i m) s = .next ((raised.setStation i { ended with spindle := .starved u }).setQueue
            (s.queue.map fun q => if q.number = j.number then { q with cls := 0 } else q)))))

/-- STATUS: a page other than 0 and 1 is refused RANGE 1. With nothing to evaluate (an account, and a tote with room) page 1
carries the statistics and page 0 the summary; the class byte of a job the station does not have may be any byte
(R188, R198; notes/assumptions/13.md), and flag bits 4–7, which R198 names no meaning for, are clear by the model's choice
(notes/assumptions/34.md). -/
def Obligations.StatusAnswersItsPage : Prop :=
  ∀ (s : State) (i : Station) (page : Option Byte), s.UpAt i →
    (∀ p, page = some p → 1 < p.toNat → exec (.status i page) s =
      .next (s.setStation i ((s.station i).answered s.clock ⟨0x41#8, [0x08#8, 2#8, 1#8]⟩))) ∧
    (∀ u acc n, (s.station i).spindle.setup? = some u → (s.station i).spindle.account? = some acc →
      (s.station i).tote = .filling n → n < u.capacity - u.exchange →
      let r := s.station i
      (page = some 1#8 → exec (.status i page) s = .next (s.setStation i (r.answered s.clock
        ⟨0x42#8, [1#8] ++ nat32 r.totalParts ++ nat32 r.totalRemnant ++ nat32 r.barsConsumed ++ [nat8 r.errors]⟩))) ∧
      (page = none ∨ page = some 0#8 → (∀ j ∈ s.jobs, j.station ≠ i) →
        ∃ x y : Byte, exec (.status i page) s = .next (({ s with draws := s.draws + 2 } : State).setStation i
          (r.answered s.clock ⟨0x42#8, [0#8, nat8 r.spindle.barState.code,
              nat8 (1 + (if r.cradle.isSome then 2 else 0) + (if acc.inexact then 4 else 0) +
                (if r.driftFlag then 8 else 0))] ++ nat32 acc.rem ++ nat16 acc.made ++ nat16 acc.partsLeft ++
              [nat8 acc.lead] ++ nat16 r.cAvg ++ nat16 ((r.cradle.map Bar.tag).getD 0) ++ [1#8] ++ nat16 n ++
              [0#8, x] ++ [0#8, y] ++ [nat8 r.zone.code]⟩))))

/-- One part counted into a tote (R73, R74, R75): held off in NO_TOTE and FULL; otherwise counted, the tote FULL at Q with a
tote job of class 1 and TOTE_HOLD sent, DUE with a tote job from Q − E on, FILLING below; a DUE tote stays DUE until Q.
A taken PART_OFF counts its parts, missing and carried, a scrap part not among them (R32, R73): the tote holds them up to Q,
FILLING below Q − E, DUE from there on, FULL at Q, and the parts held off raise OVERFILL once with their number (R76). The
tote evaluation, step by step, a DETACHED station posting nothing (R77, R78; its TOTE_HOLD is notes/assumptions/31.md). -/
def Obligations.APartFillsTheTote : Prop :=
  (∀ (s : State) (i : Station) (u : Setup),
      let p := s.countPart i u
      ((s.station i).tote = .noTote ∨ (∃ n, (s.station i).tote = .full n) → p = (s, true)) ∧
      (∀ n, (s.station i).tote = .filling n ∨ (s.station i).tote = .due n →
        p.2 = false ∧
        (n + 1 = u.capacity → (p.1.station i).tote = .full (n + 1) ∧ p.1.hasToteJob i = true ∧
          (∀ j, p.1.queuedOf false i = some j → j.cls = 1) ∧
          ((s.station i).present = true → (p.1.station i).tx = (s.station i).tx ++ [⟨0x63#8, [1#8]⟩])) ∧
        (n + 1 ≠ u.capacity → (s.station i).tote = .due n ∨ n + 1 < u.capacity - u.exchange →
          p.1 = s.setStation i { s.station i with tote := (s.station i).tote.withFill (n + 1) }) ∧
        (n + 1 ≠ u.capacity → (s.station i).tote = .filling n → u.capacity - u.exchange ≤ n + 1 →
          (p.1.station i).tote = .due (n + 1) ∧ p.1.hasToteJob i = true ∧
          (s.hasToteJob i = true → p.1 = s.setStation i { s.station i with tote := .due (n + 1) }) ∧
          (s.hasToteJob i = false → ∃ j ∈ p.1.queue, j.station = i ∧ j.kind = .swap ∧ j.cls = 3 ∧ j.posted = s.clock)))) ∧
  (∀ (s : State) (i : Station) (count : BitVec 16) (scrap : Byte) (a : Option (BitVec 32)) (u : Setup) (acc : Account),
     s.UpAt i → (s.station i).spindle.setup? = some u → (s.station i).spindle.account? = some acc → scrap.toNat ≤ 1 →
     (∀ v, a = some v → v.toNat ≤ 400000) → acc.made < count.toNat →
     let parts := count.toNat - acc.made - (if scrap = 0 then 0 else 1)
     let lead := u.capacity - u.exchange
     ∃ t, exec (.partOff i count scrap a) s = .next t ∧
       let heldOff (d : Nat) : Prop :=
         (0 < d → ∃ x, t.attOf .overfill (.station i) = some x ∧ x.detail = min d 65535 ∧ x.last = s.clock) ∧
         (d = 0 → t.attOf .overfill (.station i) = s.attOf .overfill (.station i))
       ((s.station i).tote = .noTote → (t.station i).tote = .noTote ∧ heldOff parts) ∧
       (∀ n, (s.station i).tote = .full n → (t.station i).tote = .full n ∧ heldOff parts) ∧
       (∀ n, (s.station i).tote = .filling n → n < u.capacity → heldOff (n + parts - u.capacity) ∧
         (t.station i).tote = if u.capacity ≤ n + parts then .full u.capacity
           else if lead ≤ n + parts then .due (n + parts) else .filling (n + parts)) ∧
       (∀ n, (s.station i).tote = .due n → n < u.capacity → heldOff (n + parts - u.capacity) ∧
         (u.capacity ≤ n + parts → (t.station i).tote = .full u.capacity) ∧
         (n + parts < u.capacity → s.hasToteJob i = true → (t.station i).tote = .due (n + parts)))) ∧
  (∀ (s : State) (i : Station),
     let r := s.station i
     let t := s.toteEvaluate i
     let job := s.hasToteJob i = true
     let reached (n : Nat) : Prop := ∃ u, r.spindle.setup? = some u ∧ u.capacity - u.exchange ≤ n
     let posted (k : JobKind) (c : Nat) : Prop := t.queue = s.queue ++ [⟨s.freshNumber, k, i, c, s.clock, 0, none, none, 0⟩] ∧
       t = { s with
         stations := t.stations
         queue := t.queue
         jobCounter := s.freshNumber
         attention := t.attention
         dispatchDue := true }
     let told (reason : Byte) : StationRec := { r with
       tx := r.tx ++ (if r.present = true then [⟨0x63#8, [reason]⟩] else []) }
     (∀ n, r.tote = .filling n →
       (¬reached n → t = s) ∧
       (reached n → job → t = s.setStation i { r with tote := .due n }) ∧
       (reached n → ¬job → t.station i = { r with tote := .due n } ∧ posted .swap 3)) ∧
     (∀ n, r.tote = .due n →
       (job → t = s) ∧
       (¬job → ¬reached n → t = s.setStation i { r with tote := .filling n }) ∧
       (¬job → reached n → t.station i = r ∧ posted .swap 3)) ∧
     (∀ n, r.tote = .full n →
       (job → t = s) ∧
       (¬job → r.link ≠ .detached → t.station i = told 1 ∧ posted .swap 1) ∧
       (¬job → r.link = .detached → t = s.setStation i (told 1))) ∧
     (r.tote = .noTote →
       (job → t = s) ∧
       (¬job → r.link ≠ .detached → t.station i = told 2 ∧ posted .place 1) ∧
       (¬job → r.link = .detached → t = s.setStation i (told 2))))

/-- The tote commands: TOTE_ADD and TOTE_WITHDRAW in COMMISSION, OUTBOUND_CLEARED in both modes (here where no dispatch can
follow), STATION_TOTE for a station without a queued tote job and a count below the exchange lead; each with its refusals
in the order of R88 to R90. STAND_EMPTY and OUTBOUND_FULL are tested anew (R87). -/
def Obligations.ToteCommandsMoveTotes : Prop :=
  ∀ (s : State) (w : Write), s.dispatchDue = false →
    let figures (p : Pool) : List Byte := [nat8 p.population, nat8 p.empties, nat8 p.reserved, nat8 p.outFull,
      nat8 p.outRes, nat8 p.outCap]
    (w.lenOk [2] = true → s.supervisor.mode = .commission →
      let more := { s.pool with population := s.pool.population + w.u16 0, empties := s.pool.empties + w.u16 0 }
      let less := { s.pool with population := s.pool.population - w.u16 0, empties := s.pool.empties - w.u16 0 }
      (w.u16 0 < 1 ∨ 64 < w.u16 0 ∨ 64 < s.pool.population + w.u16 0 →
        exec (.toteAdd w) s = .next (s.refuse w .range 1)) ∧
      (1 ≤ w.u16 0 → w.u16 0 ≤ 64 → s.pool.population + w.u16 0 ≤ 64 →
        exec (.toteAdd w) s = .next ((({ s with pool := more } : State).testPool).data w (figures more))) ∧
      (w.u16 0 < 1 ∨ 64 < w.u16 0 ∨ s.pool.empties - s.pool.reserved < w.u16 0 →
        exec (.toteWithdraw w) s = .next (s.refuse w .range 1)) ∧
      (1 ≤ w.u16 0 → w.u16 0 ≤ 64 → w.u16 0 ≤ s.pool.empties - s.pool.reserved →
        exec (.toteWithdraw w) s = .next ((({ s with pool := less } : State).testPool).data w (figures less)))) ∧
    (w.lenOk [2] = true →
      let back := { s.pool with outFull := s.pool.outFull - w.u16 0, empties := s.pool.empties + w.u16 0 }
      (w.u16 0 < 1 ∨ 16 < w.u16 0 ∨ s.pool.outFull < w.u16 0 →
        exec (.outboundCleared w) s = .next (s.refuse w .range 1)) ∧
      (1 ≤ w.u16 0 → w.u16 0 ≤ 16 → w.u16 0 ≤ s.pool.outFull →
        (s.supervisor.mode = .commission ∨ s.shuttle ≠ .idle) →
        exec (.outboundCleared w) s = .next ((({ s with pool := back } : State).testPool).data w (figures back)))) ∧
    (w.lenOk [3] = true → s.supervisor.mode = .commission →
      (w.u8 0 < 1 ∨ 12 < w.u8 0 → exec (.stationTote w) s = .next (s.refuse w .range 1)) ∧
      (∀ i : Station, w.u8 0 = i.val + 1 →
        let fits := match (s.station i).spindle.setup? with
          | some u => w.u16 1 < u.capacity
          | none => w.u16 1 = 0
        ((s.station i).tote ≠ .noTote → ∃ f, exec (.stationTote w) s = .next (s.refuse w .wrongState f)) ∧
        ((s.station i).tote = .noTote → ¬fits → exec (.stationTote w) s = .next (s.refuse w .range 2)) ∧
        ((s.station i).tote = .noTote → fits → s.pool.empties - s.pool.reserved = 0 →
          ∃ f, exec (.stationTote w) s = .next (s.refuse w .noEmpty f)) ∧
        ((s.station i).tote = .noTote → fits → 0 < s.pool.empties - s.pool.reserved →
          (∀ u, (s.station i).spindle.setup? = some u → w.u16 1 < u.capacity - u.exchange) →
          (∀ j ∈ s.queue, ¬(j.station = i ∧ j.kind ≠ .bar)) →
          let taken := { s.pool with empties := s.pool.empties - 1 }
          exec (.stationTote w) s = .next ((({ s with pool := taken } : State).testPool.setStation i { s.station i with
            tote := .filling (w.u16 1)
            tx := (s.station i).tx ++ (if (s.station i).present then [⟨0x64#8, []⟩] else []) }).data w
              (figures taken)))))

/-- The average cycle time, all of R36: C_d while the ring holds fewer than four intervals, otherwise their mean rounded
with halves up; it moves only with the ring and C_d; it lies in 1..6,000 when they do; the STATION table entry shows it. -/
def Obligations.CycleAverageFollowsTheRing : Prop :=
  (∀ (r : StationRec) (u : Setup), r.spindle.setup? = some u →
    (r.ring.length < 4 → r.cAvg = u.cycle) ∧
    (∀ a b c d, r.ring = [a, b, c, d] → r.cAvg = (a + b + c + d + 2) / 4) ∧
    (∀ (r' : StationRec) (u' : Setup), r'.spindle.setup? = some u' → r'.ring = r.ring → u'.cycle = u.cycle →
      r'.cAvg = r.cAvg) ∧
    (r.ring.length ≤ 4 → (∀ iv ∈ r.ring, 1 ≤ iv ∧ iv ≤ 6000) → 1 ≤ u.cycle → u.cycle ≤ 6000 →
      1 ≤ r.cAvg ∧ r.cAvg ≤ 6000)) ∧
  (∀ (s : State) (i : Station), ((s.tableEntry .station (i.val + 1)).2.drop 74).take 2 = nat16 (s.station i).cAvg)

/-- The lead evaluation (R37, R38, R39, R40): LOW without a BAR job is RUNNING again; D and K are recomputed and K clamped to
1..63; RUNNING with an empty cradle, no BAR job and N ≤ K posts a BAR job of class 2 and becomes LOW; then N = 0 in
RUNNING or LOW is ENDING. In ENDING only K moves. -/
def Obligations.LeadEvaluationPostsTheNextBar : Prop :=
  ∀ (s : State) (i : Station) (u : Setup) (acc : Account), (s.station i).spindle.setup? = some u →
    (s.station i).spindle.account? = some acc →
    let ahead := (s.queue.filter fun j => decide (j.station ≠ i) && decide (j.cls ≤ 1)).length
    let delivery := (s.station i).travel + ahead * s.params.jobTime
    let k := max 1 (min ((delivery + (s.station i).cAvg - 1) / (s.station i).cAvg + u.margin) 63)
    let acc' : Account := { acc with lead := k }
    let posts := (s.station i).spindle.barState ≠ .ending ∧ (s.station i).cradle = none ∧ s.hasJob true i = false ∧
      acc.partsLeft ≤ k
    let t := s.leadEvaluate i
    ((s.station i).spindle.barState = .ending → t = s.setStation i { s.station i with spindle := .ending u acc' }) ∧
    ((s.station i).spindle.barState ≠ .ending → ¬posts →
      t = s.setStation i { s.station i with
        spindle :=
          if acc.partsLeft = 0 then .ending u acc'
          else if (s.station i).spindle.barState = .low ∧ s.hasJob true i = true then .low u acc'
          else .running u acc' }) ∧
    (posts → (t.station i).spindle = (if acc.partsLeft = 0 then .ending u acc' else .low u acc') ∧
      t.dispatchDue = true ∧ t.jobCounter = s.freshNumber ∧ t.queue.length = s.queue.length + 1 ∧
      ((∀ j ∈ s.queue, j.number ≠ s.freshNumber) → ∃ j, t.queue = s.queue ++ [j] ∧ j.number = s.freshNumber ∧
        j.kind = .bar ∧ j.station = i ∧ j.cls = 2 ∧ j.posted = s.clock ∧ j.pass = 0 ∧ j.backoff = none ∧ j.deferral = 0))


/-! ### The drive port and the shuttle -/

/-- Changes of DRV_RDY (R120): a level that stays does nothing (notes/assumptions/3.md); a rise takes OFFLINE to IDLE with the ping count 0 and a
dispatch evaluation, and is recorded elsewhere; a fall takes IDLE to OFFLINE and MOVING and ZONE_WAIT to FAULT, cause
DRIVE_FAULT, detail 0100h, work and move kept (R126, R155), and is recorded in FAULT. PINGs start 10 ds after the entry
(R121). -/
def Obligations.TheReadyLineMovesTheShuttle : Prop :=
  ∀ s : State, s.dispatchDue = false →
    let up : Drive := { s.drive with ready := true }
    let down : Drive := { s.drive with ready := false }
    (s.drive.ready = true → exec .drvRdyRise s = .next s) ∧
    (s.drive.ready = false → exec .drvRdyFall s = .next s ∧
      (s.shuttle = .offline → exec .drvRdyRise s = .next (State.evaluate { s with
        shuttle := .idle
        drive := { up with unanswered := 0, pingOut := none, pingAt := some (s.clock + 10) } })) ∧
      (s.shuttle ≠ .offline → exec .drvRdyRise s = .next { s with drive := up })) ∧
    (s.drive.ready = true →
      (s.shuttle = .offline ∨ s.shuttle = .idle → exec .drvRdyFall s = .next { s with
        shuttle := .offline
        drive := { down with pingOut := none, pingAt := none } }) ∧
      (∀ w m, s.shuttle = .moving w m → exec .drvRdyFall s = .next (({ s with
        shuttle := .fault w ⟨.driveFault, 0x100, s.clock⟩ (some m)
        drive := down } : State).raiseEvent .driveFault .hall 0x100)) ∧
      (∀ c d, s.shuttle = .zoneWait c d → exec .drvRdyFall s = .next (({ s with
        shuttle := .fault (.job c) ⟨.driveFault, 0x100, s.clock⟩ none
        drive := down } : State).raiseEvent .driveFault .hall 0x100)) ∧
      (∀ w f m, s.shuttle = .fault w f m → exec .drvRdyFall s = .next { s with drive := down }))

/-- PINGs (R121): one is sent when its time has come in IDLE, or in OFFLINE with DRV_RDY high, with the next tag and 10 ds
to the next; the count of unanswered ones rises to at most 3, and in IDLE the third takes the shuttle OFFLINE with
DRIVE_FAULT, detail 0101h. The answer with the tag outstanding clears the count and takes OFFLINE to IDLE; any other is
stale (R125). That nothing falls due before its time is the model's guard (notes/assumptions/3.md, 21.md); that the third
unanswered PING still sends one, which the entry to OFFLINE abandons with the next due 10 ds on, is notes/assumptions/7.md. -/
def Obligations.PingsWatchTheDrive : Prop :=
  ∀ s : State,
    let pings := s.shuttle = .idle ∨ s.shuttle = .offline ∧ s.drive.ready = true
    (¬pings → exec .pingDue s = .next s) ∧
    (∀ d, s.drive.pingAt = some d →
      (¬(s.clock - d).toNat < 2147483648 → exec .pingDue s = .next s) ∧
      (pings → (s.clock - d).toNat < 2147483648 →
        let tag := if s.drive.pingTag = 255 then 1 else s.drive.pingTag + 1
        let missed := min (s.drive.unanswered + 1) 3
        let sent : Drive := { s.drive with
          pingTag := tag
          tx := s.drive.tx ++ [⟨0x23#8, [nat8 tag]⟩]
          pingOut := some tag
          pingAt := some (d + 10) }
        (s.drive.pingOut = none → exec .pingDue s = .next { s with drive := sent }) ∧
        (s.drive.pingOut ≠ none → missed < 3 ∨ s.shuttle = .offline →
          exec .pingDue s = .next { s with drive := { sent with unanswered := missed } }) ∧
        (s.drive.pingOut ≠ none → missed = 3 → s.shuttle = .idle → exec .pingDue s = .next (({ s with
          shuttle := .offline
          drive := { sent with
            unanswered := 3
            pingOut := none
            pingAt := if s.drive.ready = true then some (s.clock + 10) else none } } : State).raiseEvent .driveFault
              .hall 0x101)))) ∧
    (s.dispatchDue = false → ∀ tag : Byte,
      let heard : Drive := { s.drive with rx := .hunt }
      (s.shuttle = .idle → s.drive.pingOut = some tag.toNat →
        exec (.ping tag) s = .next { s with drive := { heard with pingOut := none, unanswered := 0 } }) ∧
      (s.shuttle = .offline → s.drive.ready = true → s.drive.pingOut = some tag.toNat →
        exec (.ping tag) s = .next (State.evaluate { s with
          shuttle := .idle
          drive := { heard with pingOut := none, unanswered := 0, pingAt := some (s.clock + 10) } })) ∧
      (¬pings ∨ s.drive.pingOut ≠ some tag.toNat →
        exec (.ping tag) s = .next (({ s with drive := heard } : State).countError .drive)))

/-- The answers to a move (R124, R125, R155, R156): a DONE that does not bear the tag of the move in flight is stale, in FAULT
even with the tag of the move of the fault; a FAULT for the move in flight enters FAULT with the work and the move kept;
one for the move of the fault refines the record; any other is stale and one with code 0 malformed, each adding an error.
The deadline reached in MOVING enters FAULT with MOVE_TIMEOUT and the tag; it does nothing elsewhere
(notes/assumptions/3.md, 21.md). -/
def Obligations.TheMoveInFlightIsAnsweredOrTimesOut : Prop :=
  ∀ s : State, s.dispatchDue = false →
    let h : State := { s with drive := { s.drive with rx := .hunt } }
    (∀ tag : Byte, (∀ w m, s.shuttle = .moving w m → m.tag ≠ tag.toNat) →
      exec (.done tag) s = .next (h.countError .drive)) ∧
    (∀ tag code : Byte,
      (code = 0 → exec (.fault tag code) s = .next (h.countError .drive)) ∧
      (code ≠ 0 →
        (∀ w m, s.shuttle = .moving w m → m.tag = tag.toNat → exec (.fault tag code) s = .next
          (({ h with shuttle := .fault w ⟨.driveFault, code.toNat, s.clock⟩ (some m) } : State).raiseEvent .driveFault
            .hall code.toNat)) ∧
        (∀ w f m, s.shuttle = .fault w f (some m) → m.tag = tag.toNat → exec (.fault tag code) s = .next
          (({ h with shuttle := .fault w ⟨.driveFault, code.toNat, f.entered⟩ (some m) } : State).raiseEvent .driveFault
            .hall code.toNat)) ∧
        ((∀ w f m, s.shuttle = .moving w m ∨ s.shuttle = .fault w f (some m) → m.tag ≠ tag.toNat) →
          exec (.fault tag code) s = .next (h.countError .drive)))) ∧
    (∀ w m, s.shuttle = .moving w m →
      ((s.clock - m.deadline).toNat < 2147483648 → exec .moveDeadline s = .next
        (({ s with shuttle := .fault w ⟨.moveTimeout, m.tag, s.clock⟩ (some m) } : State).raiseEvent .moveTimeout .hall
          m.tag)) ∧
      (¬(s.clock - m.deadline).toNat < 2147483648 → exec .moveDeadline s = .next s)) ∧
    ((∀ w m, s.shuttle ≠ .moving w m) → exec .moveDeadline s = .next s)

/-- A move issued bears the next tag, the order sent to the drive and the deadline of its action and target (R122, R123).
The DONE of a move takes the job to its next phase with the phase's effects (R128, R129, R130, R131): PICK loads the bar
and leaves the slot OUT, PICK_EMPTY takes an empty and its reservation, TO_STATION arrives at the zone with H written,
ZONE_REQUEST sent and the wait begun (R141, R153). -/
def Obligations.ADoneTakesTheSequenceOn : Prop :=
  (∀ (s : State) (w : Work) (target : Target) (action : Action),
    let tag := if s.drive.moveTag = 255 then 1 else s.drive.moveTag + 1
    let timeout := match action, target with
      | .travel, _ => s.params.travelTimeout
      | _, .cradle i => 2 * ((s.station i).handoff.getD 0)
      | _, .totePort i => 2 * ((s.station i).handoff.getD 0)
      | _, _ => s.params.handlingTimeout
    s.issueMove w target action = { s with
      shuttle := .moving w ⟨tag, target, action, s.clock + BitVec.ofNat 32 timeout⟩
      drive := { s.drive with
        moveTag := tag
        pingOut := none
        pingAt := none
        tx := s.drive.tx ++ [⟨0x20#8, [nat8 tag, nat8 target.kindCode, nat8 target.number, nat8 action.code]⟩] } }) ∧
  (∀ (s : State) (tag : Byte) (c : Current) (m : Move), s.dispatchDue = false → s.shuttle = .moving (.job c) m →
    m.tag = tag.toNat → c.cancel = false → c.ret = none →
    let h : State := { s with drive := { s.drive with rx := .hunt } }
    let i := c.job.station
    (∀ k, c.phase = .toSlot → c.job.slot = some k →
      exec (.done tag) s = .next (h.issueMove (.job { c with phase := .pick }) (.slot k) .pickBar)) ∧
    (∀ k b n, c.phase = .pick → c.job.slot = some k → s.slot k = .reserved b n →
      exec (.done tag) s = .next ((({ h with load := .bar b k } : State).setSlot k (.out n)).issueMove
        (.job { c with phase := .toStation }) (.cradle i) .travel)) ∧
    (c.phase = .toStand →
      exec (.done tag) s = .next (h.issueMove (.job { c with phase := .pickEmpty }) .stand .pickTote)) ∧
    (c.phase = .pickEmpty → 1 ≤ s.pool.reserved → s.pool.reserved ≤ s.pool.empties →
      exec (.done tag) s = .next ((({ h with
        load := .totes .empty
        pool := { s.pool with empties := s.pool.empties - 1, reserved := s.pool.reserved - 1 } } : State).testPool).issueMove
          (.job { c with phase := .toStation, standRes := false }) (.totePort i) .travel)) ∧
    (c.phase = .toOutbound →
      exec (.done tag) s = .next (h.issueMove (.job { c with phase := .placeFull }) .outbound .placeTote)) ∧
    (c.phase = .toStation →
      let hold := if c.job.kind = .bar then s.params.barHandoff else s.params.toteHandoff
      let carried := match c.job.kind, s.load with
        | .bar, .bar b _ => b.tag
        | _, _ => 0
      let request : Frame := ⟨0x65#8, [nat8 c.job.number, nat8 c.job.kind.code] ++ nat16 hold ++ nat16 carried⟩
      let arrived (z : Zone) : State := ({ h with
        shuttle := .zoneWait { c with phase := .zoneWait } (s.clock + BitVec.ofNat 32 s.params.zoneWait) } : State).setStation
          i { s.station i with
            handoff := some hold
            zone := z
            tx := (s.station i).tx ++ (if (s.station i).present = true then [request] else []) }
      ((s.station i).zone = .closed → exec (.done tag) s = .next (arrived .requested)) ∧
      (∀ till, (s.station i).zone = .opened till →
        exec (.done tag) s = .next (((arrived (.opened till)).admission i).settle))))

/-- The hand-offs and the end of a job (R62, R82, R83, R84, R130, R131, R132, R147): HANDOFF puts the bar into the cradle
and moves the bar state, SWAP and PLACE put an empty tote under the chute, each notice before ZONE_RELEASED with outcome
DONE, zone CLOSED and H absent; PLACE_FULL counts the full tote into the lane and evaluates its station's tote, which posts
the next swap at a FULL station unless its link is DETACHED (R78). HANDOFF, PLACE and PLACE_FULL end the job: the shuttle is
IDLE and a dispatch evaluation follows. With cancel-pending set the DONE ends the job instead: its pool reservations are
released and its RESERVED slot is READY and offered (R112, R135). -/
def Obligations.HandOffsDeliver : Prop :=
  ∀ (s : State) (tag : Byte) (c : Current) (m : Move), s.dispatchDue = false → s.shuttle = .moving (.job c) m →
    m.tag = tag.toNat →
    let h : State := { s with drive := { s.drive with rx := .hunt } }
    let ended : State := { s with
      shuttle := .idle
      drive := { s.drive with rx := .hunt, pingOut := none, pingAt := some (s.clock + 10) } }
    let i := c.job.station
    let r := s.station i
    let told (frames : List Frame) : List Frame :=
      r.tx ++ (if r.present = true then frames ++ [⟨0x67#8, [nat8 c.job.number, 1#8]⟩] else [])
    (c.cancel = false → c.ret = none →
      (∀ b o, c.phase = .handoff → c.job.kind = .bar → s.load = .bar b o → c.job.slot = some o → c.standRes = false →
        c.outRes = false →
        exec (.done tag) s = .next (State.evaluate (((({ ended with load := .nothing } : State).setSlot o .empty).setStation
          i { r with
            cradle := some b
            spindle := match r.spindle with
              | .low u a => .running u a
              | .starved u => .noBar u
              | x => x
            zone := .closed
            handoff := none
            tx := told [⟨0x62#8, nat16 b.tag ++ nat32 b.length⟩] }).testPool))) ∧
      (c.phase = .swap →
        exec (.done tag) s = .next ((({ h with load := .totes (.full r.tote.fill i) } : State).setStation i { r with
          tote := .filling 0
          zone := .closed
          handoff := none
          tx := told (if r.tote = .full r.tote.fill then [⟨0x64#8, []⟩] else []) }).issueMove
              (.job { c with phase := .toOutbound }) .outbound .travel)) ∧
      (c.phase = .place → c.job.kind = .place → c.standRes = false → c.outRes = false → c.job.slot = none →
        exec (.done tag) s = .next (State.evaluate ((({ ended with load := .nothing } : State).setStation i { r with
          tote := .filling 0
          zone := .closed
          handoff := none
          tx := told [⟨0x64#8, []⟩] }).testPool))) ∧
      (c.phase = .placeFull → c.job.kind = .swap → c.standRes = false → c.job.slot = none →
        let landed : State := ({ ended with
          load := .nothing
          pool := { s.pool with outFull := s.pool.outFull + 1, outRes := s.pool.outRes - 1 } } : State).testPool
        exec (.done tag) s = .next (State.evaluate { landed.toteEvaluate i with dispatchDue := false }) ∧
        ∀ n, r.tote = .full n → (∀ j ∈ s.queue, ¬(j.station = i ∧ j.kind ≠ .bar)) →
          (r.link ≠ .detached → (landed.toteEvaluate i).queue = s.queue ++ [⟨landed.freshNumber, .swap, i, 1, s.clock, 0, none,
            none, 0⟩]) ∧
          (r.link = .detached → (landed.toteEvaluate i).queue = s.queue))) ∧
    (c.cancel = true →
      let released : State := ({ ended with pool := { s.pool with
        reserved := s.pool.reserved - (if c.standRes = true then 1 else 0)
        outRes := s.pool.outRes - (if c.outRes = true then 1 else 0) } } : State).testPool
      (c.job.slot = none → exec (.done tag) s = .next released.evaluate) ∧
      (∀ k b n, c.job.slot = some k → s.slot k = .reserved b n →
        let free := released.setSlot k (.ready b)
        exec (.done tag) s = .next (State.evaluate { free.offer k none with dispatchDue := false }) ∧
        ((∀ q ∈ s.queue, ¬(s.waits none q = true ∧ s.qualifies q.station b = true)) → free.offer k none = free)))

/-- The zone wait deadline (R148, R149, R133): before it, and with no visit waiting, nothing happens (notes/assumptions/3.md,
21.md); at it ZONE_TIMEOUT is
raised with cause 1, ZONE_RELEASED with outcome WITHDRAWN is sent, the zone is CLOSED with H absent, and a return with
disposition RE_QUEUE starts, its first move chosen by the load. -/
def Obligations.AZoneTimeoutTakesTheLoadHome : Prop :=
  ∀ s : State, s.dispatchDue = false →
    ((∀ c d, s.shuttle ≠ .zoneWait c d) → exec .zoneWaitDeadline s = .next s) ∧
    (∀ c d, s.shuttle = .zoneWait c d →
      (¬(s.clock - d).toNat < 2147483648 → exec .zoneWaitDeadline s = .next s) ∧
      ((s.clock - d).toNat < 2147483648 →
        let i := c.job.station
        let r := s.station i
        let withdrawn : State := (s.raiseEvent .zoneTimeout (.station i) (256 + c.job.number)).setStation i { r with
          zone := .closed
          handoff := none
          tx := r.tx ++ (if r.present = true then [⟨0x67#8, [nat8 c.job.number, 2#8]⟩] else []) }
        let home (p : Phase) : Work := .job { c with ret := some .reQueue, cancel := false, phase := p }
        (∀ b o, s.load = .bar b o →
          exec .zoneWaitDeadline s = .next (withdrawn.issueMove (home .toSlot) (.slot o) .travel)) ∧
        (s.load = .totes .empty →
          exec .zoneWaitDeadline s = .next (withdrawn.issueMove (home .toStand) .stand .travel)) ∧
        (∀ n j, s.load = .totes (.full n j) →
          exec .zoneWaitDeadline s = .next (withdrawn.issueMove (home .toOutbound) .outbound .travel))))

/-- The phases of a return (R133, R134): the travel is followed by the setting-down move; when that is done the shuttle is
IDLE and a dispatch evaluation follows. A bar put back in a RE_QUEUE return whose station still matches has its slot RESERVED
to the job again, and the job stands in the queue by its age with the zone backoff, pass and deferral counts 0 (R63, R98,
R150); otherwise the job ends, its slot READY and its bar offered (R16), and by RECOVER RETURN a STARVED station is evaluated
(R165). An empty set down counts to the stand and a full tote to the lane, the reservations the job still held are released
(R80), and a tote job is re-queued or ended by the same rule (R85). -/
def Obligations.ReturnsSettleTheJob : Prop :=
  ∀ (s : State) (tag : Byte) (c : Current) (m : Move) (d : Disposition), s.dispatchDue = false →
    s.shuttle = .moving (.job c) m → m.tag = tag.toNat → c.cancel = false → c.ret = some d →
    let h : State := { s with drive := { s.drive with rx := .hunt } }
    let ended : State := { s with
      load := .nothing
      shuttle := .idle
      drive := { s.drive with rx := .hunt, pingOut := none, pingAt := some (s.clock + 10) } }
    let i := c.job.station
    let r := s.station i
    let again : Job := { c.job with
      pass := 0
      deferral := 0
      backoff := some (s.clock + BitVec.ofNat 32 s.params.zoneBackoff) }
    let rejoined (q : List Job) : Prop := ∃ before after, s.queue = before ++ after ∧ q = before ++ again :: after ∧
      (∀ x ∈ before, (s.clock - c.job.posted).toNat ≤ (s.clock - x.posted).toNat) ∧
      ∀ x ∈ after.head?, (s.clock - x.posted).toNat < (s.clock - c.job.posted).toNat
    (∀ b o, c.phase = .toSlot → s.load = .bar b o →
      exec (.done tag) s = .next (h.issueMove (.job { c with phase := .putBack }) (.slot o) .placeBar)) ∧
    (c.phase = .toStand →
      exec (.done tag) s = .next (h.issueMove (.job { c with phase := .place }) .stand .placeTote)) ∧
    (c.phase = .toOutbound →
      exec (.done tag) s = .next (h.issueMove (.job { c with phase := .placeFull }) .outbound .placeTote)) ∧
    (∀ b o, c.phase = .putBack → s.load = .bar b o → c.job.kind = .bar → c.job.slot = some o → c.standRes = false →
      c.outRes = false →
      let fits := r.cradle = none ∧
        (r.spindle.barState = .low ∨ r.spindle.barState = .starved ∨ r.spindle.barState = .ending)
      let free := ended.testPool.setSlot o (.ready b)
      (d = .reQueue → fits → ∃ q, rejoined q ∧ exec (.done tag) s =
        .next (State.evaluate ((({ ended with queue := q } : State).setSlot o (.reserved b c.job.number)).testPool))) ∧
      (d = .reQueue ∧ ¬fits ∨ d = .endJob ∧ r.spindle.barState ≠ .starved →
        exec (.done tag) s = .next (State.evaluate { free.offer o none with dispatchDue := false })) ∧
      (d = .endJob → r.spindle.barState = .starved →
        exec (.done tag) s =
          .next (State.evaluate { (free.offer o none).stationEvaluate i with dispatchDue := false }) ∧
        (r.cradle = none → (∀ q ∈ s.queue, ¬(q.station = i ∧ q.kind = .bar)) →
          ∃ j ∈ ((free.offer o none).stationEvaluate i).queue, j.station = i ∧ j.kind = .bar ∧ j.cls = 0 ∧
            j.posted = s.clock ∧ (((free.offer o none).stationEvaluate i).station i).spindle = r.spindle)) ∧
      ((∀ q ∈ s.queue, ¬(s.waits none q = true ∧ s.qualifies q.station b = true)) → free.offer o none = free) ∧
      ((∃ q ∈ s.queue, s.waits none q = true ∧ s.qualifies q.station b = true) →
        ∃ q ∈ s.queue, s.waits none q = true ∧ s.qualifies q.station b = true ∧
          (free.offer o none).slot o = .reserved b q.number)) ∧
    (c.job.kind ≠ .bar → c.job.slot = none → c.phase = .place ∨ c.phase = .placeFull →
      let matched := r.link ≠ .detached ∧
        (c.job.kind = .swap ∧ (∃ n, r.tote = .due n ∨ r.tote = .full n) ∨ c.job.kind = .place ∧ r.tote = .noTote)
      let stand := s.pool.reserved - (if c.standRes = true then 1 else 0)
      let pool : Pool :=
        if c.phase = .place then { s.pool with
          empties := s.pool.empties + 1
          reserved := stand
          outRes := s.pool.outRes - (if c.outRes = true then 1 else 0) }
        else { s.pool with outFull := s.pool.outFull + 1, outRes := s.pool.outRes - 1, reserved := stand }
      (d = .reQueue ∧ matched → ∃ q records, rejoined q ∧
        exec (.done tag) s = .next (State.evaluate { ended with pool := pool, queue := q, attention := records })) ∧
      (d = .endJob ∨ ¬matched →
        exec (.done tag) s = .next (State.evaluate ({ ended with pool := pool } : State).testPool)))

/-! ### The zones -/

/-- ZONE_GRANT and ZONE_CLOSE where no visit is being waited at (R142, R145): a window outside 10..600 refused RANGE, an
IN_USE zone answered LATE; otherwise the grant opens the zone until now + w, replacing an earlier one, and the close
closes it; nothing else changes. -/
def Obligations.GrantsOpenAndClosesClose : Prop :=
  ∀ (s : State) (i : Station) (w : BitVec 16), s.UpAt i →
    let r := s.station i
    let inRange := 10 ≤ w.toNat ∧ w.toNat ≤ 600
    (¬inRange → exec (.zoneGrant i w) s = .next (s.setStation i (r.answered s.clock ⟨0x41#8, [0x06#8, 2#8, 1#8]⟩))) ∧
    (inRange → r.zone = .inUse →
      exec (.zoneGrant i w) s = .next (s.setStation i (r.answered s.clock ⟨0x41#8, [0x06#8, 5#8, 0#8]⟩))) ∧
    (inRange → r.zone ≠ .inUse → (∀ c d, s.shuttle = .zoneWait c d → c.job.station ≠ i) →
      exec (.zoneGrant i w) s = .next (s.setStation i { r.answered s.clock ⟨0x40#8, [0x06#8]⟩ with
        zone := .opened (s.clock + BitVec.ofNat 32 w.toNat) })) ∧
    (r.zone = .inUse →
      exec (.zoneClose i) s = .next (s.setStation i (r.answered s.clock ⟨0x41#8, [0x07#8, 5#8, 0#8]⟩))) ∧
    (r.zone ≠ .inUse →
      exec (.zoneClose i) s = .next (s.setStation i { r.answered s.clock ⟨0x40#8, [0x07#8]⟩ with zone := .closed }))

/-- A grant to a waiting visit (R142, R143, R144, R149, R153): with at least H it admits the hand-off, the zone IN_USE and
the move of the job's kind issued; with less it is declined, the zone REQUESTED, the deferral count raised and
ZONE_DECLINE sent behind the ACK; the fourth decline is a zone timeout with cause 2, here with a bar aboard. -/
def Obligations.AGrantIsAdmittedOrDeclined : Prop :=
  ∀ (s : State) (i : Station) (w : BitVec 16) (c : Current) (d : Time) (hold : Nat), s.UpAt i →
    s.shuttle = .zoneWait c d → c.job.station = i → (s.station i).zone ≠ .inUse → (s.station i).handoff = some hold →
    10 ≤ w.toNat → w.toNat ≤ 600 →
    let r := s.station i
    let taken := r.answered s.clock ⟨0x40#8, [0x06#8]⟩
    let n := c.job.deferral + 1
    let declined : Frame := ⟨0x66#8, [nat8 c.job.number] ++ nat16 hold ++ nat16 w.toNat ++ [nat8 n]⟩
    (hold ≤ w.toNat →
      let inside := s.setStation i { taken with zone := .inUse }
      (c.job.kind = .bar → exec (.zoneGrant i w) s =
        .next (inside.issueMove (.job { c with phase := .handoff }) (.cradle i) .placeBar)) ∧
      (c.job.kind = .swap → exec (.zoneGrant i w) s =
        .next (inside.issueMove (.job { c with phase := .swap }) (.totePort i) .swapTote)) ∧
      (c.job.kind = .place → exec (.zoneGrant i w) s =
        .next (inside.issueMove (.job { c with phase := .place }) (.totePort i) .placeTote))) ∧
    (w.toNat < hold →
      (n < 4 → exec (.zoneGrant i w) s = .next (({ s with
        shuttle := .zoneWait { c with job := { c.job with deferral := n } } d } : State).setStation i { taken with
          zone := .requested
          tx := taken.tx ++ [declined] })) ∧
      (∀ b o, 4 ≤ n → s.load = .bar b o → exec (.zoneGrant i w) s =
        .next (((s.raiseEvent .zoneTimeout (.station i) (512 + c.job.number)).setStation i { taken with
          zone := .closed
          handoff := none
          tx := taken.tx ++ [declined, ⟨0x67#8, [nat8 c.job.number, 2#8]⟩] }).issueMove (.job { c with
            job := { c.job with deferral := n }
            ret := some .reQueue
            cancel := false
            phase := .toSlot }) (.slot o) .travel)))

/-- The expiry of open-until (R146; that it waits for a tick is notes/assumptions/1.md and 3.md): it falls when the hall clock comes to open-until; an OPEN zone becomes REQUESTED
where a visit is in progress and CLOSED otherwise, nothing else changes; in every other state nothing happens; a grant
and an expiry that fall together end OPEN with the new window in either order. -/
def Obligations.AnOpenZoneExpires : Prop :=
  ∀ (s : State) (i : Station),
    (∀ t, s.pending = [] → step s = .next t → (s.station i).zone = .opened t.clock → .openUntilExpiry i ∈ t.pending) ∧
    ((s.station i).zone = .opened s.clock →
      let visit := ∃ c ∈ s.current?, c.job.station = i ∧ c.ret = none ∧
        (c.phase = .zoneWait ∨ c.phase = .handoff ∨ c.phase = .swap ∨ c.phase = .place)
      (visit → exec (.openUntilExpiry i) s = .next (s.setStation i { s.station i with zone := .requested })) ∧
      (¬visit → exec (.openUntilExpiry i) s = .next (s.setStation i { s.station i with zone := .closed })) ∧
      (∀ w : BitVec 16, s.UpAt i → (∀ c d, s.shuttle = .zoneWait c d → c.job.station ≠ i) → 10 ≤ w.toNat →
        w.toNat ≤ 600 → ∃ t u, exec (.zoneGrant i w) s = .next t ∧ exec (.openUntilExpiry i) t = .next t ∧
          exec (.openUntilExpiry i) s = .next u ∧ exec (.zoneGrant i w) u = .next t ∧
          (t.station i).zone = .opened (s.clock + BitVec.ofNat 32 w.toNat))) ∧
    ((∀ till, (s.station i).zone ≠ .opened till) → exec (.openUntilExpiry i) s = .next s)

/-! ### Recovery and manual moves -/

/-- The checks of RECOVER in their order (R159): WRONG_STATE outside FAULT, RANGE for an option other than 1 to 4, NOT_READY
for RETRY, RESUME and RETURN with DRV_RDY low. The checks of MANUAL_MOVE after its mode (R136): RANGE for a target that
is none (notes/assumptions/12.md), BUSY unless IDLE; accepted it issues a TRAVEL answered with its tag, and its DONE leaves the shuttle IDLE. -/
def Obligations.RecoverAndManualMoveAreChecked : Prop :=
  (∀ (s : State) (w : Write) (c : Instr), w.lenOk [1] = true →
    (c = .recoverRetry w ∨ c = .recoverResume w ∨ c = .recoverReturn w ∨ c = .recoverClear w) →
    ((∀ k f m, s.shuttle ≠ .fault k f m) → ∃ f, exec c s = .next (s.refuse w .wrongState f)) ∧
    (∀ k f m, s.shuttle = .fault k f m →
      (w.u8 0 < 1 ∨ 4 < w.u8 0 → exec c s = .next (s.refuse w .range 1)) ∧
      (1 ≤ w.u8 0 → w.u8 0 ≤ 3 → s.drive.ready = false → ∃ f, exec c s = .next (s.refuse w .notReady f)))) ∧
  (∀ (s : State) (w : Write), s.supervisor.mode = .commission → w.lenOk [2] = true →
    ((∀ t : Target, ¬(w.u8 0 = t.kindCode ∧ w.u8 1 = t.number)) →
      ∃ f, exec (.manualMove w) s = .next (s.refuse w .range f)) ∧
    (∀ t : Target, w.u8 0 = t.kindCode → w.u8 1 = t.number →
      (s.shuttle ≠ .idle → ∃ f, exec (.manualMove w) s = .next (s.refuse w .busy f)) ∧
      (s.shuttle = .idle → exec (.manualMove w) s = .next ((s.issueMove .manual t .travel).ok w
        [nat8 (if s.drive.moveTag = 255 then 1 else s.drive.moveTag + 1)])))) ∧
  (∀ (s : State) (m : Move) (tag : Byte), s.dispatchDue = false → s.shuttle = .moving .manual m → m.tag = tag.toNat →
    exec (.done tag) s = .next (State.evaluate { s with
      shuttle := .idle
      drive := { s.drive with rx := .hunt, pingOut := none, pingAt := some (s.clock + 10) } }))

/-- RETRY and RESUME (R161, R162, R163, R169): RETRY issues the move of the fault again; RESUME takes it as done, by the same
act as its DONE (a manual move ends, TO_SLOT goes on to PICK, PICK loads the bar); with no move of the fault the wait is
resumed with the H held, ZONE_REQUEST sent again and a new deadline. -/
def Obligations.RetryAndResumeGoOn : Prop :=
  ∀ (s : State) (w : Write) (f : FaultRec), s.dispatchDue = false → s.drive.ready = true → w.lenOk [1] = true →
    (∀ k m, s.shuttle = .fault k f (some m) →
      (w.u8 0 = 1 → exec (.recoverRetry w) s = .next ((s.issueMove k m.target m.action).ok w [])) ∧
      (w.u8 0 = 2 →
        exec (.recoverResume w) s = .next (((s.workDone k).settle).ok w []) ∧
        (∀ (u : State) (tag : Byte), u.shuttle = .moving k m → m.tag = tag.toNat →
          exec (.done tag) u = .next ((({ u with drive := { u.drive with rx := .hunt } } : State).workDone k).settle)) ∧
        (k = .manual → exec (.recoverResume w) s = .next ((State.evaluate { s with
          shuttle := .idle
          drive := { s.drive with pingOut := none, pingAt := some (s.clock + 10) } }).ok w [])) ∧
        (∀ c n, k = .job c → c.cancel = false → c.ret = none → c.job.slot = some n →
          (c.phase = .toSlot → exec (.recoverResume w) s =
            .next ((s.issueMove (.job { c with phase := .pick }) (.slot n) .pickBar).ok w [])) ∧
          (∀ b o, c.phase = .pick → s.slot n = .reserved b o → exec (.recoverResume w) s =
            .next (((({ s with load := .bar b n } : State).setSlot n (.out o)).issueMove
              (.job { c with phase := .toStation }) (.cradle c.job.station) .travel).ok w []))))) ∧
    (∀ c hold, s.shuttle = .fault (.job c) f none → (s.station c.job.station).handoff = some hold →
      let i := c.job.station
      let carried := match c.job.kind, s.load with
        | .bar, .bar b _ => b.tag
        | _, _ => 0
      let request : Frame := ⟨0x65#8, [nat8 c.job.number, nat8 c.job.kind.code] ++ nat16 hold ++ nat16 carried⟩
      let resumed (z : Zone) : State := ({ s with
        shuttle := .zoneWait { c with phase := .zoneWait } (s.clock + BitVec.ofNat 32 s.params.zoneWait) } : State).setStation
          i { s.station i with
            zone := z
            tx := (s.station i).tx ++ (if (s.station i).present = true then [request] else []) }
      (w.u8 0 = 1 → (s.station i).zone = .closed ∨ (s.station i).zone = .requested →
        exec (.recoverRetry w) s = .next ((resumed .requested).ok w [])) ∧
      (w.u8 0 = 2 → (s.station i).zone = .closed ∨ (s.station i).zone = .requested →
        exec (.recoverResume w) s = .next ((resumed .requested).ok w [])) ∧
      (∀ till, (s.station i).zone = .opened till →
        (w.u8 0 = 1 → exec (.recoverRetry w) s = .next ((((resumed (.opened till)).admission i).settle).ok w [])) ∧
        (w.u8 0 = 2 → exec (.recoverResume w) s = .next ((((resumed (.opened till)).admission i).settle).ok w []))))

/-- RETURN and CLEAR of a faulted job (R160, R164, R165, R166, R167): a visit in progress is withdrawn; RETURN starts a return
with disposition END from the load, and without a load ends the job, evaluating a STARVED station of a BAR job, which then
posts a class 0 BAR job anew; CLEAR scraps a bar, leaving its origin slot EMPTY, or counts a tote to the stand, and ends
the job. The end gives back the job's pool reservations, makes its RESERVED slot READY and offers it; the shuttle is IDLE, or
after CLEAR with DRV_RDY low OFFLINE, and the dispatch evaluation follows. A manual move ends likewise (R169). -/
def Obligations.ReturnAndClearEndTheWork : Prop :=
  ∀ (s : State) (w : Write) (k : Work) (f : FaultRec) (m : Option Move), s.dispatchDue = false → w.lenOk [1] = true →
    s.shuttle = .fault k f m →
    let idle (x : State) : State := { x with
      shuttle := .idle
      drive := { x.drive with pingOut := none, pingAt := some (x.clock + 10) } }
    let rest (x : State) : State := if x.drive.ready = true then idle x else { x with
      shuttle := .offline
      drive := { x.drive with pingOut := none, pingAt := none } }
    let unwanted (b : Bar) : Prop := ∀ q ∈ s.queue, ¬(s.waits none q = true ∧ s.qualifies q.station b = true)
    (k = .manual →
      (w.u8 0 = 3 → s.drive.ready = true → exec (.recoverReturn w) s = .next ((State.evaluate (idle s)).ok w [])) ∧
      (w.u8 0 = 4 → exec (.recoverClear w) s = .next ((State.evaluate (rest s)).ok w []))) ∧
    (∀ c, k = .job c →
      let i := c.job.station
      let r := s.station i
      let visit := c.ret = none ∧ (c.phase = .zoneWait ∨ c.phase = .handoff ∨ c.phase = .swap ∨ c.phase = .place)
      let withdrawn : StationRec := { r with
        zone := .closed
        handoff := none
        tx := r.tx ++ (if r.present = true then [⟨0x67#8, [nat8 c.job.number, 2#8]⟩] else []) }
      let home (p : Phase) : Work := .job { c with ret := some .endJob, cancel := false, phase := p }
      let released (p : Pool) : Pool := { p with
        reserved := p.reserved - (if c.standRes = true then 1 else 0)
        outRes := p.outRes - (if c.outRes = true then 1 else 0) }
      ∀ u : State, (visit → u = s.setStation i withdrawn) → (¬visit → u = s) →
        (w.u8 0 = 3 → s.drive.ready = true →
          (∀ b o, s.load = .bar b o →
            exec (.recoverReturn w) s = .next ((u.issueMove (home .toSlot) (.slot o) .travel).ok w [])) ∧
          (s.load = .totes .empty →
            exec (.recoverReturn w) s = .next ((u.issueMove (home .toStand) .stand .travel).ok w [])) ∧
          (∀ n j, s.load = .totes (.full n j) →
            exec (.recoverReturn w) s = .next ((u.issueMove (home .toOutbound) .outbound .travel).ok w [])) ∧
          (s.load = .nothing →
            let ceased : State := (idle { u with pool := released s.pool }).testPool
            let settled (x : State) : State := if c.job.kind = .bar ∧ r.spindle.barState = .starved then
              { x.stationEvaluate i with dispatchDue := false } else { x with dispatchDue := false }
            (c.job.slot = none →
              exec (.recoverReturn w) s = .next ((State.evaluate (settled ceased)).ok w [])) ∧
            (∀ n b o, c.job.slot = some n → s.slot n = .reserved b o →
              let free := ceased.setSlot n (.ready b)
              exec (.recoverReturn w) s = .next ((State.evaluate (settled (free.offer n none))).ok w []) ∧
              (unwanted b → free.offer n none = free) ∧
              (c.job.kind = .bar → r.spindle.barState = .starved → r.cradle = none →
                (∀ q ∈ s.queue, ¬(q.station = i ∧ q.kind = .bar)) →
                ∃ j ∈ (settled (free.offer n none)).queue, j.station = i ∧ j.kind = .bar ∧ j.cls = 0 ∧
                  j.posted = s.clock)))) ∧
        (w.u8 0 = 4 →
          (∀ b o, s.load = .bar b o → c.job.slot = some o → exec (.recoverClear w) s = .next ((State.evaluate
            ((rest { u with load := .nothing, pool := released s.pool }).testPool.setSlot o .empty)).ok w [])) ∧
          (∀ e, s.load = .totes e → c.job.slot = none → exec (.recoverClear w) s = .next ((State.evaluate
            (rest { u with
              load := .nothing
              pool := released { s.pool with empties := s.pool.empties + 1 } }).testPool).ok w [])) ∧
          (s.load = .nothing →
            let ceased : State := (rest { u with pool := released s.pool }).testPool
            (c.job.slot = none → exec (.recoverClear w) s = .next ((State.evaluate ceased).ok w [])) ∧
            (∀ n b o, c.job.slot = some n → s.slot n = .reserved b o →
              let free := ceased.setSlot n (.ready b)
              exec (.recoverClear w) s =
                .next ((State.evaluate { free.offer n none with dispatchDue := false }).ok w []) ∧
              (unwanted b → free.offer n none = free)))))


/-! ### Attention -/

/-- Raises and removals (R173, R174): an event makes a record with count 1, or gives the pending one the new detail and time
and one more occurrence up to 255; a condition makes an unreported record, and nothing while one stands; an update
changes the detail alone; the end of a condition removes its record; no other record is touched, and nothing else of the
state. -/
def Obligations.RaisesKeepOneRecord : Prop :=
  ∀ (s : State) (c : Cause) (sc : Scope) (d : Nat),
    let event := s.raiseEvent c sc d
    let begun := s.raiseCondition c sc d
    let held := s.holdCondition c sc d
    let ended := s.endCondition c sc
    (s.attOf c sc = none → event.attOf c sc = some ⟨c, sc, min d 65535, 1, s.clock, false⟩ ∧ begun = event ∧
      held = event ∧ ended = s) ∧
    (∀ r, s.attOf c sc = some r →
      event.attOf c sc = some { r with detail := min d 65535, count := min (r.count + 1) 255, last := s.clock } ∧
      begun = s ∧ held.attOf c sc = some { r with detail := min d 65535 }) ∧
    ended.attOf c sc = none ∧
    (∀ c' sc', ¬(c' = c ∧ sc' = sc) → event.attOf c' sc' = s.attOf c' sc' ∧ held.attOf c' sc' = s.attOf c' sc' ∧
      ended.attOf c' sc' = s.attOf c' sc') ∧
    (∀ t, t = event ∨ t = begun ∨ t = held ∨ t = ended → t = { s with attention := t.attention })

/-- ATTENTION_READ answers the first readable record in the order of the set: an event is removed, a condition marked
reported; with none readable the cause NONE is answered and nATTN is high (R172, R176, R179). ATTENTION_ENABLE replaces the
mask, RANGE for bits 12 to 15 (R178). ATTENTION_SUMMARY answers mask, number, nATTN and every record (R180, R198). -/
def Obligations.AttentionIsReadInOrder : Prop :=
  ∀ (s : State) (w : Write),
    let readable (a : AttRec) : Prop :=
      s.enable.getLsbD (a.cause.priority - 1) = true ∧ (a.cause.isCondition = false ∨ a.reported = false)
    (w.lenOk [0] = true →
      ((∀ a ∈ s.attention, ¬readable a) → s.nAttn = true ∧ exec (.attentionRead w) s = .next (s.data w [0])) ∧
      (∀ before a after, s.AttentionOrdered → s.attention = before ++ a :: after → (∀ x ∈ before, ¬readable x) →
        readable a → s.nAttn = false ∧
        let answer (kind : Byte) := [nat8 a.cause.priority, nat8 a.scope.num] ++ nat16 a.detail ++ [nat8 a.count] ++
          bytes32 a.last ++ [kind]
        (a.cause.isCondition = false →
          exec (.attentionRead w) s = .next (({ s with attention := before ++ after } : State).data w (answer 1))) ∧
        (a.cause.isCondition = true →
          exec (.attentionRead w) s = .next (({ s with
            attention := before ++ { a with reported := true } :: after } : State).data w (answer 2)))) ∧
      exec (.attentionSummary w) s = .next (s.data w (nat16 s.enable.toNat ++
        [nat8 s.attention.length, if s.nAttn = true then 1 else 0] ++ s.attention.flatMap fun a =>
          [nat8 a.cause.priority, nat8 a.scope.num, nat8 a.count,
            if a.cause.isCondition = true then (if a.reported = true then 3 else 2) else 1]))) ∧
    (w.lenOk [2] = true →
      (4096 ≤ (w.mask16 0).toNat → exec (.attentionEnable w) s = .next (s.refuse w .range 1)) ∧
      ((w.mask16 0).toNat < 4096 → exec (.attentionEnable w) s =
        .next (({ s with enable := BitVec.ofNat 12 (w.mask16 0).toNat } : State).ok w (nat16 (w.mask16 0).toNat))))

/-- ATTENTION_CLEAR_ALL, all of R177: OK; every event record is removed and every condition record marked reported, disabled
ones too, with nothing else of them changed; no port's error count moves; nATTN is high; a raise after it starts anew. -/
def Obligations.ClearAllLeavesReportedConditions : Prop :=
  ∀ (s : State) (w : Write), w.lenOk [0] = true →
    ∃ t, exec (.attentionClearAll w) s = .next t ∧ t.supervisor.answer = some ⟨w.tag, 0x00#8, []⟩ ∧
      (∀ c sc, t.attOf c sc = if c.isCondition = true then (s.attOf c sc).map fun a => { a with reported := true }
        else none) ∧
      t.attention.length ≤ s.attention.length ∧ (∀ a ∈ t.attention, a.cause.isCondition = true ∧ a.reported = true) ∧
      t.nAttn = true ∧ (∀ p, t.portErrors p = s.portErrors p) ∧
      (∀ c sc d, c.isCondition = false →
        (t.raiseEvent c sc d).attOf c sc = some ⟨c, sc, min d 65535, 1, s.clock, false⟩) ∧
      t = { s with attention := t.attention, supervisor := t.supervisor }

/-! ### The queue and the dispatcher -/

/-- A dispatch evaluation in PRODUCTION with the shuttle IDLE (R107, R108, R109, R128): nothing without an eligible job;
otherwise the first eligible in the dispatch order leaves the queue, the rotation pointer of its bay is set, the other
eligible jobs not below its class gain a pass or at the eighth a class, a tote job reserves in the pool, the station is
told, and the first move is issued. In COMMISSION, or with the shuttle not IDLE, nothing happens (R106). -/
def Obligations.DispatchTakesTheFirstEligibleJob : Prop :=
  ∀ s : State,
    (s.supervisor.mode = .commission ∨ s.shuttle ≠ .idle → s.evaluate = s) ∧
    (s.supervisor.mode = .production → s.shuttle = .idle →
      ((∀ j ∈ s.queue, s.blockOf j ≠ .none) → s.evaluate = s) ∧
      ((∃ j ∈ s.queue, s.blockOf j = .none) → ∃ j c m, j ∈ s.queue ∧ s.blockOf j = .none ∧
        (∀ q ∈ s.queue, s.blockOf q = .none → j.cls ≤ q.cls ∧ lexLt (s.dispatchKey q) (s.dispatchKey j) = false) ∧
        s.evaluate.shuttle = .moving (.job c) m ∧ c.job = { j with backoff := none } ∧ c.ret = none ∧ c.cancel = false ∧
        (j.kind = .bar → ∃ k, j.slot = some k ∧ c.phase = .toSlot ∧ m.target = .slot k) ∧
        (j.kind ≠ .bar → c.phase = .toStand ∧ m.target = .stand) ∧ m.action = .travel ∧
        m.tag = nextTag s.drive.moveTag ∧
        s.evaluate.queue = (s.queue.filter fun q => decide (q.number ≠ j.number)).map (fun q =>
          if s.blockOf q = .none ∧ j.cls ≤ q.cls then
            (if q.pass < 7 then { q with pass := q.pass + 1 }
             else { q with pass := 0, cls := if q.cls = 2 ∨ q.cls = 3 then q.cls - 1 else q.cls })
          else q) ∧
        s.evaluate.pool = { s.pool with
          reserved := s.pool.reserved + (if j.kind = .bar then 0 else 1)
          outRes := s.pool.outRes + (if j.kind = .swap then 1 else 0) } ∧
        s.evaluate.arbiter = s.arbiter.setPointer (bayOf j.station) j.station ∧
        (∀ i, i ≠ j.station → s.evaluate.station i = s.station i) ∧
        ((s.station j.station).present = true →
          (j.kind ≠ .bar → s.evaluate.station j.station = { s.station j.station with
            tx := (s.station j.station).tx ++
              [⟨0x61#8, [nat8 j.number, nat8 j.kind.code] ++ nat16 (s.station j.station).travel⟩] }) ∧
          (∀ k b n, j.kind = .bar → j.slot = some k → s.slot k = .reserved b n →
            s.evaluate.station j.station = { s.station j.station with
              tx := (s.station j.station).tx ++
                [⟨0x60#8, [nat8 j.number, 1#8] ++ nat16 (s.station j.station).travel ++ nat16 b.tag⟩] }))))

/-- MODE (R196): a value other than 1 and 2 refused RANGE 1; PRODUCTION from COMMISSION sets the mode with a dispatch
evaluation, in PRODUCTION nothing changes; COMMISSION is refused BUSY from PRODUCTION while a job is current. HALL_RESET
(R197): refused BUSY unless IDLE, OFFLINE or in FAULT with no load; accepted it empties set and queue, frees reservations,
closes the zones and ends the work (R18, R69, R92, R117, R138, R154); here with every station DETACHED nothing is posted
anew, and with stations attached LINK_LOST is raised anew for the LOST ones and no event stays (R181). That the PINGs of a
shuttle already IDLE start anew, the first 10 ds on, is the model's reading (notes/assumptions/8.md). -/
def Obligations.ModeAndHallResetAct : Prop :=
  (∀ (s : State) (w : Write), s.dispatchDue = false → w.lenOk [1] = true →
    (w.u8 0 ≠ 1 → w.u8 0 ≠ 2 → exec (.modeProduction w) s = .next (s.refuse w .range 1) ∧
      exec (.modeCommission w) s = .next (s.refuse w .range 1)) ∧
    (w.u8 0 = 2 →
      (s.supervisor.mode = .production → exec (.modeProduction w) s = .next (s.ok w [2#8])) ∧
      (s.supervisor.mode = .commission → exec (.modeProduction w) s = .next ((State.evaluate { s with
        supervisor := { s.supervisor with mode := .production } }).ok w [2#8]))) ∧
    (w.u8 0 = 1 →
      (s.supervisor.mode = .production → s.current? ≠ none →
        ∃ f, exec (.modeCommission w) s = .next (s.refuse w .busy f)) ∧
      (s.supervisor.mode = .commission ∨ s.current? = none → exec (.modeCommission w) s = .next (({ s with
        supervisor := { s.supervisor with mode := .commission } } : State).ok w [1#8])))) ∧
  (∀ (s : State) (w : Write), s.dispatchDue = false → w.lenOk [0] = true →
    let taken := s.shuttle = .idle ∨ s.shuttle = .offline ∨ ∃ k f m, s.shuttle = .fault k f m ∧ s.load = .nothing
    (¬taken → ∃ f, exec (.hallReset w) s = .next (s.refuse w .busy f)) ∧
    (taken → (∀ i, (s.station i).link = .detached) →
      ∃ t, exec (.hallReset w) s = .next t ∧ t.supervisor.answer = some ⟨w.tag, 0x00#8, []⟩ ∧
        (∀ k, t.slot k = match s.slot k with
          | .reserved b _ => .ready b
          | x => x) ∧
        (∀ i, t.station i = { s.station i with
          zone := .closed
          handoff := none
          spindle := match (s.station i).spindle with
            | .low u a => .running u a
            | .starved u => .noBar u
            | x => x }) ∧
        t = { s with
          slots := t.slots
          stations := t.stations
          pool := { s.pool with reserved := 0, outRes := 0 }
          queue := []
          attention := []
          shuttle := if s.drive.ready = true then .idle else .offline
          drive := { s.drive with
            unanswered := 0
            pingOut := none
            pingAt := if s.drive.ready = true then some (s.clock + 10) else none }
          supervisor := t.supervisor }) ∧
    (taken → ∃ t, exec (.hallReset w) s = .next t ∧ t.supervisor.answer = some ⟨w.tag, 0x00#8, []⟩ ∧
      (∀ a ∈ t.attention, a.cause.isCondition = true ∧ a.reported = false) ∧
      (∀ i, (s.station i).link.isLost = true →
        t.attOf .linkLost (.station i) = some ⟨.linkLost, .station i, 0, 1, s.clock, false⟩) ∧
      (∀ j ∈ t.jobs, j.posted = s.clock) ∧ (∀ i, (t.station i).zone = .closed ∧ (t.station i).handoff = none) ∧
      t.supervisor.mode = s.supervisor.mode ∧ t.params = s.params ∧ t.tagCounter = s.tagCounter ∧
      t.arrival = s.arrival ∧ t.supervisor.cursorTable = s.supervisor.cursorTable ∧
      t.supervisor.cursorIndex = s.supervisor.cursorIndex))

/-! ### Invariants -/

/-- The power-on state keeps the ten laws of the device and every invariant stated below. -/
def Obligations.ResetKeepsTheLaws : Prop :=
  State.reset.Safe ∧ State.reset.AttentionOrdered ∧ State.reset.PoolHeld ∧ State.reset.JobsHeld ∧ State.reset.ZoneHeld ∧
  State.reset.TagsHeld ∧ State.reset.FillHeld ∧ State.reset.NumbersHeld ∧ State.reset.WorkHeld

/-- The attention set stays in read order with at most one record for each cause and scope, whatever happens (R172). -/
def Obligations.TheAttentionSetStaysOrdered : Prop :=
  ∀ s t : State, s.AttentionOrdered → step s = .next t → t.AttentionOrdered

/-- The fifth law is kept by every step: no more empties are reserved than stand there, and lane and lane reservations
together never pass the capacity (R71); with it what the current job holds of them (R80). -/
def Obligations.TheFifthLawIsKept : Prop :=
  ∀ s t : State, s.PoolHeld → step s = .next t → t.PoolHeld

/-- The third and ninth laws are kept by every step: each station has at most one BAR job and one tote job (R95), and a
station whose cradle holds a bar has no BAR job (R62). -/
def Obligations.TheThirdAndNinthLawsAreKept : Prop :=
  ∀ s t : State, s.JobsHeld → step s = .next t → t.JobsHeld

/-- The tenth law is kept by every step: while a hand-off move is in flight at a station, or stands as the move of a fault,
that station's zone is IN_USE (R139, R151). -/
def Obligations.TheTenthLawIsKept : Prop :=
  ∀ s t : State, s.ZoneHeld → step s = .next t → t.ZoneHeld ∧ t.ZoneGuarded

/-- The second, fourth and seventh laws are kept by every step, with what makes them last: a slot is RESERVED or OUT exactly
for the one BAR job that names it (R5), stand, lane, stations and load hold the population (R71), and without a current job
the load is NONE (R127). With them no station that is DETACHED has a queued job (R78, R109), and no job is current in
COMMISSION (R196). -/
def Obligations.TheSecondFourthAndSeventhLawsAreKept : Prop :=
  ∀ s t : State, s.WorkHeld → step s = .next t →
    t.WorkHeld ∧ t.SlotsOwned ∧ t.TotesCounted ∧ t.LoadHasJob

/-- The first, sixth and eighth laws are kept by every step: a held tag stands in one place (R3), a fill count stays within
the capacity (R72), and no two jobs, queued or current, bear one number (R94, R99). For this a new tag is the first free
one behind the tag counter, going on from 65,535 to 1 (R4), and a new job number the first free one behind the job
counter, going on from 255 to 1 (R94). -/
def Obligations.TheFirstSixthAndEighthLawsAreKept : Prop :=
  (∀ s t : State, step s = .next t →
    (s.TagsHeld → t.TagsHeld ∧ t.TagsOnce) ∧ (s.FillHeld → t.FillHeld ∧ t.FillBounded) ∧
    (s.NumbersHeld → t.NumbersHeld ∧ t.NumbersOnce)) ∧
  (∀ s : State, s.tagCounter ≤ 65535 →
    let ahead (n : Nat) : Nat := (n + 65534 - s.tagCounter) % 65535
    1 ≤ s.freshTag ∧ s.freshTag ≤ 65535 ∧ s.freshTag ∉ s.heldTags ∧
      ∀ n, 1 ≤ n → n ≤ 65535 → ahead n < ahead s.freshTag → n ∈ s.heldTags) ∧
  (∀ s : State, s.jobCounter ≤ 255 → s.jobs.length < 255 →
    let ahead (n : Nat) : Nat := (n + 254 - s.jobCounter) % 255
    1 ≤ s.freshNumber ∧ s.freshNumber ≤ 255 ∧ (∀ j ∈ s.jobs, j.number ≠ s.freshNumber) ∧
      ∀ n, 1 ≤ n → n ≤ 255 → ahead n < ahead s.freshNumber → ∃ j ∈ s.jobs, j.number = n)
end

