-- ==== Sys2Proof/Laws/State.lean ====
section
/-! SUPPORT. The small lemmas of State: one for each field and each update that holds by computation, and the reading of
one slot or station record after an update. No proof above this file unfolds a record update. -/

namespace Sys2Proof.Machine

/-! ### setSlot -/

@[simp] theorem State.setSlot_clock (s : State) (k : SlotIx) (v : Slot) :
    (s.setSlot k v).clock = s.clock := rfl
@[simp] theorem State.setSlot_slots (s : State) (k : SlotIx) (v : Slot) :
    (s.setSlot k v).slots = s.slots.set k.val v k.isLt := rfl
@[simp] theorem State.setSlot_arrival (s : State) (k : SlotIx) (v : Slot) :
    (s.setSlot k v).arrival = s.arrival := rfl
@[simp] theorem State.setSlot_tagCounter (s : State) (k : SlotIx) (v : Slot) :
    (s.setSlot k v).tagCounter = s.tagCounter := rfl
@[simp] theorem State.setSlot_stations (s : State) (k : SlotIx) (v : Slot) :
    (s.setSlot k v).stations = s.stations := rfl
@[simp] theorem State.setSlot_pool (s : State) (k : SlotIx) (v : Slot) :
    (s.setSlot k v).pool = s.pool := rfl
@[simp] theorem State.setSlot_queue (s : State) (k : SlotIx) (v : Slot) :
    (s.setSlot k v).queue = s.queue := rfl
@[simp] theorem State.setSlot_jobCounter (s : State) (k : SlotIx) (v : Slot) :
    (s.setSlot k v).jobCounter = s.jobCounter := rfl
@[simp] theorem State.setSlot_arbiter (s : State) (k : SlotIx) (v : Slot) :
    (s.setSlot k v).arbiter = s.arbiter := rfl
@[simp] theorem State.setSlot_shuttle (s : State) (k : SlotIx) (v : Slot) :
    (s.setSlot k v).shuttle = s.shuttle := rfl
@[simp] theorem State.setSlot_load (s : State) (k : SlotIx) (v : Slot) :
    (s.setSlot k v).load = s.load := rfl
@[simp] theorem State.setSlot_drive (s : State) (k : SlotIx) (v : Slot) :
    (s.setSlot k v).drive = s.drive := rfl
@[simp] theorem State.setSlot_params (s : State) (k : SlotIx) (v : Slot) :
    (s.setSlot k v).params = s.params := rfl
@[simp] theorem State.setSlot_attention (s : State) (k : SlotIx) (v : Slot) :
    (s.setSlot k v).attention = s.attention := rfl
@[simp] theorem State.setSlot_enable (s : State) (k : SlotIx) (v : Slot) :
    (s.setSlot k v).enable = s.enable := rfl
@[simp] theorem State.setSlot_supervisor (s : State) (k : SlotIx) (v : Slot) :
    (s.setSlot k v).supervisor = s.supervisor := rfl
@[simp] theorem State.setSlot_dispatchDue (s : State) (k : SlotIx) (v : Slot) :
    (s.setSlot k v).dispatchDue = s.dispatchDue := rfl
@[simp] theorem State.setSlot_draws (s : State) (k : SlotIx) (v : Slot) :
    (s.setSlot k v).draws = s.draws := rfl
@[simp] theorem State.setSlot_pending (s : State) (k : SlotIx) (v : Slot) :
    (s.setSlot k v).pending = s.pending := rfl
@[simp] theorem State.setSlot_station (s : State) (k : SlotIx) (v : Slot) (j : Station) :
    (s.setSlot k v).station j = s.station j := rfl

/-! ### setStation -/

@[simp] theorem State.setStation_clock (s : State) (i : Station) (r : StationRec) :
    (s.setStation i r).clock = s.clock := rfl
@[simp] theorem State.setStation_slots (s : State) (i : Station) (r : StationRec) :
    (s.setStation i r).slots = s.slots := rfl
@[simp] theorem State.setStation_arrival (s : State) (i : Station) (r : StationRec) :
    (s.setStation i r).arrival = s.arrival := rfl
@[simp] theorem State.setStation_tagCounter (s : State) (i : Station) (r : StationRec) :
    (s.setStation i r).tagCounter = s.tagCounter := rfl
@[simp] theorem State.setStation_stations (s : State) (i : Station) (r : StationRec) :
    (s.setStation i r).stations = s.stations.set i.val r i.isLt := rfl
@[simp] theorem State.setStation_pool (s : State) (i : Station) (r : StationRec) :
    (s.setStation i r).pool = s.pool := rfl
@[simp] theorem State.setStation_queue (s : State) (i : Station) (r : StationRec) :
    (s.setStation i r).queue = s.queue := rfl
@[simp] theorem State.setStation_jobCounter (s : State) (i : Station) (r : StationRec) :
    (s.setStation i r).jobCounter = s.jobCounter := rfl
@[simp] theorem State.setStation_arbiter (s : State) (i : Station) (r : StationRec) :
    (s.setStation i r).arbiter = s.arbiter := rfl
@[simp] theorem State.setStation_shuttle (s : State) (i : Station) (r : StationRec) :
    (s.setStation i r).shuttle = s.shuttle := rfl
@[simp] theorem State.setStation_load (s : State) (i : Station) (r : StationRec) :
    (s.setStation i r).load = s.load := rfl
@[simp] theorem State.setStation_drive (s : State) (i : Station) (r : StationRec) :
    (s.setStation i r).drive = s.drive := rfl
@[simp] theorem State.setStation_params (s : State) (i : Station) (r : StationRec) :
    (s.setStation i r).params = s.params := rfl
@[simp] theorem State.setStation_attention (s : State) (i : Station) (r : StationRec) :
    (s.setStation i r).attention = s.attention := rfl
@[simp] theorem State.setStation_enable (s : State) (i : Station) (r : StationRec) :
    (s.setStation i r).enable = s.enable := rfl
@[simp] theorem State.setStation_supervisor (s : State) (i : Station) (r : StationRec) :
    (s.setStation i r).supervisor = s.supervisor := rfl
@[simp] theorem State.setStation_dispatchDue (s : State) (i : Station) (r : StationRec) :
    (s.setStation i r).dispatchDue = s.dispatchDue := rfl
@[simp] theorem State.setStation_draws (s : State) (i : Station) (r : StationRec) :
    (s.setStation i r).draws = s.draws := rfl
@[simp] theorem State.setStation_pending (s : State) (i : Station) (r : StationRec) :
    (s.setStation i r).pending = s.pending := rfl
@[simp] theorem State.setStation_slot (s : State) (i : Station) (r : StationRec) (k' : SlotIx) :
    (s.setStation i r).slot k' = s.slot k' := rfl

/-! ### modStation -/

@[simp] theorem State.modStation_clock (s : State) (i : Station) (f : StationRec → StationRec) :
    (s.modStation i f).clock = s.clock := rfl
@[simp] theorem State.modStation_slots (s : State) (i : Station) (f : StationRec → StationRec) :
    (s.modStation i f).slots = s.slots := rfl
@[simp] theorem State.modStation_arrival (s : State) (i : Station) (f : StationRec → StationRec) :
    (s.modStation i f).arrival = s.arrival := rfl
@[simp] theorem State.modStation_tagCounter (s : State) (i : Station) (f : StationRec → StationRec) :
    (s.modStation i f).tagCounter = s.tagCounter := rfl
@[simp] theorem State.modStation_stations (s : State) (i : Station) (f : StationRec → StationRec) :
    (s.modStation i f).stations = s.stations.set i.val (f (s.station i)) i.isLt := rfl
@[simp] theorem State.modStation_pool (s : State) (i : Station) (f : StationRec → StationRec) :
    (s.modStation i f).pool = s.pool := rfl
@[simp] theorem State.modStation_queue (s : State) (i : Station) (f : StationRec → StationRec) :
    (s.modStation i f).queue = s.queue := rfl
@[simp] theorem State.modStation_jobCounter (s : State) (i : Station) (f : StationRec → StationRec) :
    (s.modStation i f).jobCounter = s.jobCounter := rfl
@[simp] theorem State.modStation_arbiter (s : State) (i : Station) (f : StationRec → StationRec) :
    (s.modStation i f).arbiter = s.arbiter := rfl
@[simp] theorem State.modStation_shuttle (s : State) (i : Station) (f : StationRec → StationRec) :
    (s.modStation i f).shuttle = s.shuttle := rfl
@[simp] theorem State.modStation_load (s : State) (i : Station) (f : StationRec → StationRec) :
    (s.modStation i f).load = s.load := rfl
@[simp] theorem State.modStation_drive (s : State) (i : Station) (f : StationRec → StationRec) :
    (s.modStation i f).drive = s.drive := rfl
@[simp] theorem State.modStation_params (s : State) (i : Station) (f : StationRec → StationRec) :
    (s.modStation i f).params = s.params := rfl
@[simp] theorem State.modStation_attention (s : State) (i : Station) (f : StationRec → StationRec) :
    (s.modStation i f).attention = s.attention := rfl
@[simp] theorem State.modStation_enable (s : State) (i : Station) (f : StationRec → StationRec) :
    (s.modStation i f).enable = s.enable := rfl
@[simp] theorem State.modStation_supervisor (s : State) (i : Station) (f : StationRec → StationRec) :
    (s.modStation i f).supervisor = s.supervisor := rfl
@[simp] theorem State.modStation_dispatchDue (s : State) (i : Station) (f : StationRec → StationRec) :
    (s.modStation i f).dispatchDue = s.dispatchDue := rfl
@[simp] theorem State.modStation_draws (s : State) (i : Station) (f : StationRec → StationRec) :
    (s.modStation i f).draws = s.draws := rfl
@[simp] theorem State.modStation_pending (s : State) (i : Station) (f : StationRec → StationRec) :
    (s.modStation i f).pending = s.pending := rfl
@[simp] theorem State.modStation_slot (s : State) (i : Station) (f : StationRec → StationRec) (k' : SlotIx) :
    (s.modStation i f).slot k' = s.slot k' := rfl

/-! ### setQueue -/

@[simp] theorem State.setQueue_clock (s : State) (q : List Job) :
    (s.setQueue q).clock = s.clock := rfl
@[simp] theorem State.setQueue_slots (s : State) (q : List Job) :
    (s.setQueue q).slots = s.slots := rfl
@[simp] theorem State.setQueue_arrival (s : State) (q : List Job) :
    (s.setQueue q).arrival = s.arrival := rfl
@[simp] theorem State.setQueue_tagCounter (s : State) (q : List Job) :
    (s.setQueue q).tagCounter = s.tagCounter := rfl
@[simp] theorem State.setQueue_stations (s : State) (q : List Job) :
    (s.setQueue q).stations = s.stations := rfl
@[simp] theorem State.setQueue_pool (s : State) (q : List Job) :
    (s.setQueue q).pool = s.pool := rfl
@[simp] theorem State.setQueue_queue (s : State) (q : List Job) :
    (s.setQueue q).queue = q := rfl
@[simp] theorem State.setQueue_jobCounter (s : State) (q : List Job) :
    (s.setQueue q).jobCounter = s.jobCounter := rfl
@[simp] theorem State.setQueue_arbiter (s : State) (q : List Job) :
    (s.setQueue q).arbiter = s.arbiter := rfl
@[simp] theorem State.setQueue_shuttle (s : State) (q : List Job) :
    (s.setQueue q).shuttle = s.shuttle := rfl
@[simp] theorem State.setQueue_load (s : State) (q : List Job) :
    (s.setQueue q).load = s.load := rfl
@[simp] theorem State.setQueue_drive (s : State) (q : List Job) :
    (s.setQueue q).drive = s.drive := rfl
@[simp] theorem State.setQueue_params (s : State) (q : List Job) :
    (s.setQueue q).params = s.params := rfl
@[simp] theorem State.setQueue_attention (s : State) (q : List Job) :
    (s.setQueue q).attention = s.attention := rfl
@[simp] theorem State.setQueue_enable (s : State) (q : List Job) :
    (s.setQueue q).enable = s.enable := rfl
@[simp] theorem State.setQueue_supervisor (s : State) (q : List Job) :
    (s.setQueue q).supervisor = s.supervisor := rfl
@[simp] theorem State.setQueue_dispatchDue (s : State) (q : List Job) :
    (s.setQueue q).dispatchDue = s.dispatchDue := rfl
@[simp] theorem State.setQueue_draws (s : State) (q : List Job) :
    (s.setQueue q).draws = s.draws := rfl
@[simp] theorem State.setQueue_pending (s : State) (q : List Job) :
    (s.setQueue q).pending = s.pending := rfl
@[simp] theorem State.setQueue_slot (s : State) (q : List Job) (k' : SlotIx) :
    (s.setQueue q).slot k' = s.slot k' := rfl
@[simp] theorem State.setQueue_station (s : State) (q : List Job) (j : Station) :
    (s.setQueue q).station j = s.station j := rfl

/-! ### setShuttle -/

@[simp] theorem State.setShuttle_clock (s : State) (x : Shuttle) :
    (s.setShuttle x).clock = s.clock := rfl
@[simp] theorem State.setShuttle_slots (s : State) (x : Shuttle) :
    (s.setShuttle x).slots = s.slots := rfl
@[simp] theorem State.setShuttle_arrival (s : State) (x : Shuttle) :
    (s.setShuttle x).arrival = s.arrival := rfl
@[simp] theorem State.setShuttle_tagCounter (s : State) (x : Shuttle) :
    (s.setShuttle x).tagCounter = s.tagCounter := rfl
@[simp] theorem State.setShuttle_stations (s : State) (x : Shuttle) :
    (s.setShuttle x).stations = s.stations := rfl
@[simp] theorem State.setShuttle_pool (s : State) (x : Shuttle) :
    (s.setShuttle x).pool = s.pool := rfl
@[simp] theorem State.setShuttle_queue (s : State) (x : Shuttle) :
    (s.setShuttle x).queue = s.queue := rfl
@[simp] theorem State.setShuttle_jobCounter (s : State) (x : Shuttle) :
    (s.setShuttle x).jobCounter = s.jobCounter := rfl
@[simp] theorem State.setShuttle_arbiter (s : State) (x : Shuttle) :
    (s.setShuttle x).arbiter = s.arbiter := rfl
@[simp] theorem State.setShuttle_shuttle (s : State) (x : Shuttle) :
    (s.setShuttle x).shuttle = x := rfl
@[simp] theorem State.setShuttle_load (s : State) (x : Shuttle) :
    (s.setShuttle x).load = s.load := rfl
@[simp] theorem State.setShuttle_drive (s : State) (x : Shuttle) :
    (s.setShuttle x).drive = s.drive := rfl
@[simp] theorem State.setShuttle_params (s : State) (x : Shuttle) :
    (s.setShuttle x).params = s.params := rfl
@[simp] theorem State.setShuttle_attention (s : State) (x : Shuttle) :
    (s.setShuttle x).attention = s.attention := rfl
@[simp] theorem State.setShuttle_enable (s : State) (x : Shuttle) :
    (s.setShuttle x).enable = s.enable := rfl
@[simp] theorem State.setShuttle_supervisor (s : State) (x : Shuttle) :
    (s.setShuttle x).supervisor = s.supervisor := rfl
@[simp] theorem State.setShuttle_dispatchDue (s : State) (x : Shuttle) :
    (s.setShuttle x).dispatchDue = s.dispatchDue := rfl
@[simp] theorem State.setShuttle_draws (s : State) (x : Shuttle) :
    (s.setShuttle x).draws = s.draws := rfl
@[simp] theorem State.setShuttle_pending (s : State) (x : Shuttle) :
    (s.setShuttle x).pending = s.pending := rfl
@[simp] theorem State.setShuttle_slot (s : State) (x : Shuttle) (k' : SlotIx) :
    (s.setShuttle x).slot k' = s.slot k' := rfl
@[simp] theorem State.setShuttle_station (s : State) (x : Shuttle) (j : Station) :
    (s.setShuttle x).station j = s.station j := rfl

/-! ### setLoad -/

@[simp] theorem State.setLoad_clock (s : State) (l : Load) :
    (s.setLoad l).clock = s.clock := rfl
@[simp] theorem State.setLoad_slots (s : State) (l : Load) :
    (s.setLoad l).slots = s.slots := rfl
@[simp] theorem State.setLoad_arrival (s : State) (l : Load) :
    (s.setLoad l).arrival = s.arrival := rfl
@[simp] theorem State.setLoad_tagCounter (s : State) (l : Load) :
    (s.setLoad l).tagCounter = s.tagCounter := rfl
@[simp] theorem State.setLoad_stations (s : State) (l : Load) :
    (s.setLoad l).stations = s.stations := rfl
@[simp] theorem State.setLoad_pool (s : State) (l : Load) :
    (s.setLoad l).pool = s.pool := rfl
@[simp] theorem State.setLoad_queue (s : State) (l : Load) :
    (s.setLoad l).queue = s.queue := rfl
@[simp] theorem State.setLoad_jobCounter (s : State) (l : Load) :
    (s.setLoad l).jobCounter = s.jobCounter := rfl
@[simp] theorem State.setLoad_arbiter (s : State) (l : Load) :
    (s.setLoad l).arbiter = s.arbiter := rfl
@[simp] theorem State.setLoad_shuttle (s : State) (l : Load) :
    (s.setLoad l).shuttle = s.shuttle := rfl
@[simp] theorem State.setLoad_load (s : State) (l : Load) :
    (s.setLoad l).load = l := rfl
@[simp] theorem State.setLoad_drive (s : State) (l : Load) :
    (s.setLoad l).drive = s.drive := rfl
@[simp] theorem State.setLoad_params (s : State) (l : Load) :
    (s.setLoad l).params = s.params := rfl
@[simp] theorem State.setLoad_attention (s : State) (l : Load) :
    (s.setLoad l).attention = s.attention := rfl
@[simp] theorem State.setLoad_enable (s : State) (l : Load) :
    (s.setLoad l).enable = s.enable := rfl
@[simp] theorem State.setLoad_supervisor (s : State) (l : Load) :
    (s.setLoad l).supervisor = s.supervisor := rfl
@[simp] theorem State.setLoad_dispatchDue (s : State) (l : Load) :
    (s.setLoad l).dispatchDue = s.dispatchDue := rfl
@[simp] theorem State.setLoad_draws (s : State) (l : Load) :
    (s.setLoad l).draws = s.draws := rfl
@[simp] theorem State.setLoad_pending (s : State) (l : Load) :
    (s.setLoad l).pending = s.pending := rfl
@[simp] theorem State.setLoad_slot (s : State) (l : Load) (k' : SlotIx) :
    (s.setLoad l).slot k' = s.slot k' := rfl
@[simp] theorem State.setLoad_station (s : State) (l : Load) (j : Station) :
    (s.setLoad l).station j = s.station j := rfl

/-! ### setDrive -/

@[simp] theorem State.setDrive_clock (s : State) (d : Drive) :
    (s.setDrive d).clock = s.clock := rfl
@[simp] theorem State.setDrive_slots (s : State) (d : Drive) :
    (s.setDrive d).slots = s.slots := rfl
@[simp] theorem State.setDrive_arrival (s : State) (d : Drive) :
    (s.setDrive d).arrival = s.arrival := rfl
@[simp] theorem State.setDrive_tagCounter (s : State) (d : Drive) :
    (s.setDrive d).tagCounter = s.tagCounter := rfl
@[simp] theorem State.setDrive_stations (s : State) (d : Drive) :
    (s.setDrive d).stations = s.stations := rfl
@[simp] theorem State.setDrive_pool (s : State) (d : Drive) :
    (s.setDrive d).pool = s.pool := rfl
@[simp] theorem State.setDrive_queue (s : State) (d : Drive) :
    (s.setDrive d).queue = s.queue := rfl
@[simp] theorem State.setDrive_jobCounter (s : State) (d : Drive) :
    (s.setDrive d).jobCounter = s.jobCounter := rfl
@[simp] theorem State.setDrive_arbiter (s : State) (d : Drive) :
    (s.setDrive d).arbiter = s.arbiter := rfl
@[simp] theorem State.setDrive_shuttle (s : State) (d : Drive) :
    (s.setDrive d).shuttle = s.shuttle := rfl
@[simp] theorem State.setDrive_load (s : State) (d : Drive) :
    (s.setDrive d).load = s.load := rfl
@[simp] theorem State.setDrive_drive (s : State) (d : Drive) :
    (s.setDrive d).drive = d := rfl
@[simp] theorem State.setDrive_params (s : State) (d : Drive) :
    (s.setDrive d).params = s.params := rfl
@[simp] theorem State.setDrive_attention (s : State) (d : Drive) :
    (s.setDrive d).attention = s.attention := rfl
@[simp] theorem State.setDrive_enable (s : State) (d : Drive) :
    (s.setDrive d).enable = s.enable := rfl
@[simp] theorem State.setDrive_supervisor (s : State) (d : Drive) :
    (s.setDrive d).supervisor = s.supervisor := rfl
@[simp] theorem State.setDrive_dispatchDue (s : State) (d : Drive) :
    (s.setDrive d).dispatchDue = s.dispatchDue := rfl
@[simp] theorem State.setDrive_draws (s : State) (d : Drive) :
    (s.setDrive d).draws = s.draws := rfl
@[simp] theorem State.setDrive_pending (s : State) (d : Drive) :
    (s.setDrive d).pending = s.pending := rfl
@[simp] theorem State.setDrive_slot (s : State) (d : Drive) (k' : SlotIx) :
    (s.setDrive d).slot k' = s.slot k' := rfl
@[simp] theorem State.setDrive_station (s : State) (d : Drive) (j : Station) :
    (s.setDrive d).station j = s.station j := rfl

/-! ### setPoolFigures -/

@[simp] theorem State.setPoolFigures_clock (s : State) (p : Pool) :
    (s.setPoolFigures p).clock = s.clock := rfl
@[simp] theorem State.setPoolFigures_slots (s : State) (p : Pool) :
    (s.setPoolFigures p).slots = s.slots := rfl
@[simp] theorem State.setPoolFigures_arrival (s : State) (p : Pool) :
    (s.setPoolFigures p).arrival = s.arrival := rfl
@[simp] theorem State.setPoolFigures_tagCounter (s : State) (p : Pool) :
    (s.setPoolFigures p).tagCounter = s.tagCounter := rfl
@[simp] theorem State.setPoolFigures_stations (s : State) (p : Pool) :
    (s.setPoolFigures p).stations = s.stations := rfl
@[simp] theorem State.setPoolFigures_pool (s : State) (p : Pool) :
    (s.setPoolFigures p).pool = p := rfl
@[simp] theorem State.setPoolFigures_queue (s : State) (p : Pool) :
    (s.setPoolFigures p).queue = s.queue := rfl
@[simp] theorem State.setPoolFigures_jobCounter (s : State) (p : Pool) :
    (s.setPoolFigures p).jobCounter = s.jobCounter := rfl
@[simp] theorem State.setPoolFigures_arbiter (s : State) (p : Pool) :
    (s.setPoolFigures p).arbiter = s.arbiter := rfl
@[simp] theorem State.setPoolFigures_shuttle (s : State) (p : Pool) :
    (s.setPoolFigures p).shuttle = s.shuttle := rfl
@[simp] theorem State.setPoolFigures_load (s : State) (p : Pool) :
    (s.setPoolFigures p).load = s.load := rfl
@[simp] theorem State.setPoolFigures_drive (s : State) (p : Pool) :
    (s.setPoolFigures p).drive = s.drive := rfl
@[simp] theorem State.setPoolFigures_params (s : State) (p : Pool) :
    (s.setPoolFigures p).params = s.params := rfl
@[simp] theorem State.setPoolFigures_attention (s : State) (p : Pool) :
    (s.setPoolFigures p).attention = s.attention := rfl
@[simp] theorem State.setPoolFigures_enable (s : State) (p : Pool) :
    (s.setPoolFigures p).enable = s.enable := rfl
@[simp] theorem State.setPoolFigures_supervisor (s : State) (p : Pool) :
    (s.setPoolFigures p).supervisor = s.supervisor := rfl
@[simp] theorem State.setPoolFigures_dispatchDue (s : State) (p : Pool) :
    (s.setPoolFigures p).dispatchDue = s.dispatchDue := rfl
@[simp] theorem State.setPoolFigures_draws (s : State) (p : Pool) :
    (s.setPoolFigures p).draws = s.draws := rfl
@[simp] theorem State.setPoolFigures_pending (s : State) (p : Pool) :
    (s.setPoolFigures p).pending = s.pending := rfl
@[simp] theorem State.setPoolFigures_slot (s : State) (p : Pool) (k' : SlotIx) :
    (s.setPoolFigures p).slot k' = s.slot k' := rfl
@[simp] theorem State.setPoolFigures_station (s : State) (p : Pool) (j : Station) :
    (s.setPoolFigures p).station j = s.station j := rfl

/-! ### setParams -/

@[simp] theorem State.setParams_clock (s : State) (p : Params) :
    (s.setParams p).clock = s.clock := rfl
@[simp] theorem State.setParams_slots (s : State) (p : Params) :
    (s.setParams p).slots = s.slots := rfl
@[simp] theorem State.setParams_arrival (s : State) (p : Params) :
    (s.setParams p).arrival = s.arrival := rfl
@[simp] theorem State.setParams_tagCounter (s : State) (p : Params) :
    (s.setParams p).tagCounter = s.tagCounter := rfl
@[simp] theorem State.setParams_stations (s : State) (p : Params) :
    (s.setParams p).stations = s.stations := rfl
@[simp] theorem State.setParams_pool (s : State) (p : Params) :
    (s.setParams p).pool = s.pool := rfl
@[simp] theorem State.setParams_queue (s : State) (p : Params) :
    (s.setParams p).queue = s.queue := rfl
@[simp] theorem State.setParams_jobCounter (s : State) (p : Params) :
    (s.setParams p).jobCounter = s.jobCounter := rfl
@[simp] theorem State.setParams_arbiter (s : State) (p : Params) :
    (s.setParams p).arbiter = s.arbiter := rfl
@[simp] theorem State.setParams_shuttle (s : State) (p : Params) :
    (s.setParams p).shuttle = s.shuttle := rfl
@[simp] theorem State.setParams_load (s : State) (p : Params) :
    (s.setParams p).load = s.load := rfl
@[simp] theorem State.setParams_drive (s : State) (p : Params) :
    (s.setParams p).drive = s.drive := rfl
@[simp] theorem State.setParams_params (s : State) (p : Params) :
    (s.setParams p).params = p := rfl
@[simp] theorem State.setParams_attention (s : State) (p : Params) :
    (s.setParams p).attention = s.attention := rfl
@[simp] theorem State.setParams_enable (s : State) (p : Params) :
    (s.setParams p).enable = s.enable := rfl
@[simp] theorem State.setParams_supervisor (s : State) (p : Params) :
    (s.setParams p).supervisor = s.supervisor := rfl
@[simp] theorem State.setParams_dispatchDue (s : State) (p : Params) :
    (s.setParams p).dispatchDue = s.dispatchDue := rfl
@[simp] theorem State.setParams_draws (s : State) (p : Params) :
    (s.setParams p).draws = s.draws := rfl
@[simp] theorem State.setParams_pending (s : State) (p : Params) :
    (s.setParams p).pending = s.pending := rfl
@[simp] theorem State.setParams_slot (s : State) (p : Params) (k' : SlotIx) :
    (s.setParams p).slot k' = s.slot k' := rfl
@[simp] theorem State.setParams_station (s : State) (p : Params) (j : Station) :
    (s.setParams p).station j = s.station j := rfl

/-! ### setArbiter -/

@[simp] theorem State.setArbiter_clock (s : State) (a : Arbiter) :
    (s.setArbiter a).clock = s.clock := rfl
@[simp] theorem State.setArbiter_slots (s : State) (a : Arbiter) :
    (s.setArbiter a).slots = s.slots := rfl
@[simp] theorem State.setArbiter_arrival (s : State) (a : Arbiter) :
    (s.setArbiter a).arrival = s.arrival := rfl
@[simp] theorem State.setArbiter_tagCounter (s : State) (a : Arbiter) :
    (s.setArbiter a).tagCounter = s.tagCounter := rfl
@[simp] theorem State.setArbiter_stations (s : State) (a : Arbiter) :
    (s.setArbiter a).stations = s.stations := rfl
@[simp] theorem State.setArbiter_pool (s : State) (a : Arbiter) :
    (s.setArbiter a).pool = s.pool := rfl
@[simp] theorem State.setArbiter_queue (s : State) (a : Arbiter) :
    (s.setArbiter a).queue = s.queue := rfl
@[simp] theorem State.setArbiter_jobCounter (s : State) (a : Arbiter) :
    (s.setArbiter a).jobCounter = s.jobCounter := rfl
@[simp] theorem State.setArbiter_arbiter (s : State) (a : Arbiter) :
    (s.setArbiter a).arbiter = a := rfl
@[simp] theorem State.setArbiter_shuttle (s : State) (a : Arbiter) :
    (s.setArbiter a).shuttle = s.shuttle := rfl
@[simp] theorem State.setArbiter_load (s : State) (a : Arbiter) :
    (s.setArbiter a).load = s.load := rfl
@[simp] theorem State.setArbiter_drive (s : State) (a : Arbiter) :
    (s.setArbiter a).drive = s.drive := rfl
@[simp] theorem State.setArbiter_params (s : State) (a : Arbiter) :
    (s.setArbiter a).params = s.params := rfl
@[simp] theorem State.setArbiter_attention (s : State) (a : Arbiter) :
    (s.setArbiter a).attention = s.attention := rfl
@[simp] theorem State.setArbiter_enable (s : State) (a : Arbiter) :
    (s.setArbiter a).enable = s.enable := rfl
@[simp] theorem State.setArbiter_supervisor (s : State) (a : Arbiter) :
    (s.setArbiter a).supervisor = s.supervisor := rfl
@[simp] theorem State.setArbiter_dispatchDue (s : State) (a : Arbiter) :
    (s.setArbiter a).dispatchDue = s.dispatchDue := rfl
@[simp] theorem State.setArbiter_draws (s : State) (a : Arbiter) :
    (s.setArbiter a).draws = s.draws := rfl
@[simp] theorem State.setArbiter_pending (s : State) (a : Arbiter) :
    (s.setArbiter a).pending = s.pending := rfl
@[simp] theorem State.setArbiter_slot (s : State) (a : Arbiter) (k' : SlotIx) :
    (s.setArbiter a).slot k' = s.slot k' := rfl
@[simp] theorem State.setArbiter_station (s : State) (a : Arbiter) (j : Station) :
    (s.setArbiter a).station j = s.station j := rfl

/-! ### setAttention -/

@[simp] theorem State.setAttention_clock (s : State) (l : List AttRec) :
    (s.setAttention l).clock = s.clock := rfl
@[simp] theorem State.setAttention_slots (s : State) (l : List AttRec) :
    (s.setAttention l).slots = s.slots := rfl
@[simp] theorem State.setAttention_arrival (s : State) (l : List AttRec) :
    (s.setAttention l).arrival = s.arrival := rfl
@[simp] theorem State.setAttention_tagCounter (s : State) (l : List AttRec) :
    (s.setAttention l).tagCounter = s.tagCounter := rfl
@[simp] theorem State.setAttention_stations (s : State) (l : List AttRec) :
    (s.setAttention l).stations = s.stations := rfl
@[simp] theorem State.setAttention_pool (s : State) (l : List AttRec) :
    (s.setAttention l).pool = s.pool := rfl
@[simp] theorem State.setAttention_queue (s : State) (l : List AttRec) :
    (s.setAttention l).queue = s.queue := rfl
@[simp] theorem State.setAttention_jobCounter (s : State) (l : List AttRec) :
    (s.setAttention l).jobCounter = s.jobCounter := rfl
@[simp] theorem State.setAttention_arbiter (s : State) (l : List AttRec) :
    (s.setAttention l).arbiter = s.arbiter := rfl
@[simp] theorem State.setAttention_shuttle (s : State) (l : List AttRec) :
    (s.setAttention l).shuttle = s.shuttle := rfl
@[simp] theorem State.setAttention_load (s : State) (l : List AttRec) :
    (s.setAttention l).load = s.load := rfl
@[simp] theorem State.setAttention_drive (s : State) (l : List AttRec) :
    (s.setAttention l).drive = s.drive := rfl
@[simp] theorem State.setAttention_params (s : State) (l : List AttRec) :
    (s.setAttention l).params = s.params := rfl
@[simp] theorem State.setAttention_attention (s : State) (l : List AttRec) :
    (s.setAttention l).attention = l := rfl
@[simp] theorem State.setAttention_enable (s : State) (l : List AttRec) :
    (s.setAttention l).enable = s.enable := rfl
@[simp] theorem State.setAttention_supervisor (s : State) (l : List AttRec) :
    (s.setAttention l).supervisor = s.supervisor := rfl
@[simp] theorem State.setAttention_dispatchDue (s : State) (l : List AttRec) :
    (s.setAttention l).dispatchDue = s.dispatchDue := rfl
@[simp] theorem State.setAttention_draws (s : State) (l : List AttRec) :
    (s.setAttention l).draws = s.draws := rfl
@[simp] theorem State.setAttention_pending (s : State) (l : List AttRec) :
    (s.setAttention l).pending = s.pending := rfl
@[simp] theorem State.setAttention_slot (s : State) (l : List AttRec) (k' : SlotIx) :
    (s.setAttention l).slot k' = s.slot k' := rfl
@[simp] theorem State.setAttention_station (s : State) (l : List AttRec) (j : Station) :
    (s.setAttention l).station j = s.station j := rfl

/-! ### setSupervisor -/

@[simp] theorem State.setSupervisor_clock (s : State) (p : Supervisor) :
    (s.setSupervisor p).clock = s.clock := rfl
@[simp] theorem State.setSupervisor_slots (s : State) (p : Supervisor) :
    (s.setSupervisor p).slots = s.slots := rfl
@[simp] theorem State.setSupervisor_arrival (s : State) (p : Supervisor) :
    (s.setSupervisor p).arrival = s.arrival := rfl
@[simp] theorem State.setSupervisor_tagCounter (s : State) (p : Supervisor) :
    (s.setSupervisor p).tagCounter = s.tagCounter := rfl
@[simp] theorem State.setSupervisor_stations (s : State) (p : Supervisor) :
    (s.setSupervisor p).stations = s.stations := rfl
@[simp] theorem State.setSupervisor_pool (s : State) (p : Supervisor) :
    (s.setSupervisor p).pool = s.pool := rfl
@[simp] theorem State.setSupervisor_queue (s : State) (p : Supervisor) :
    (s.setSupervisor p).queue = s.queue := rfl
@[simp] theorem State.setSupervisor_jobCounter (s : State) (p : Supervisor) :
    (s.setSupervisor p).jobCounter = s.jobCounter := rfl
@[simp] theorem State.setSupervisor_arbiter (s : State) (p : Supervisor) :
    (s.setSupervisor p).arbiter = s.arbiter := rfl
@[simp] theorem State.setSupervisor_shuttle (s : State) (p : Supervisor) :
    (s.setSupervisor p).shuttle = s.shuttle := rfl
@[simp] theorem State.setSupervisor_load (s : State) (p : Supervisor) :
    (s.setSupervisor p).load = s.load := rfl
@[simp] theorem State.setSupervisor_drive (s : State) (p : Supervisor) :
    (s.setSupervisor p).drive = s.drive := rfl
@[simp] theorem State.setSupervisor_params (s : State) (p : Supervisor) :
    (s.setSupervisor p).params = s.params := rfl
@[simp] theorem State.setSupervisor_attention (s : State) (p : Supervisor) :
    (s.setSupervisor p).attention = s.attention := rfl
@[simp] theorem State.setSupervisor_enable (s : State) (p : Supervisor) :
    (s.setSupervisor p).enable = s.enable := rfl
@[simp] theorem State.setSupervisor_supervisor (s : State) (p : Supervisor) :
    (s.setSupervisor p).supervisor = p := rfl
@[simp] theorem State.setSupervisor_dispatchDue (s : State) (p : Supervisor) :
    (s.setSupervisor p).dispatchDue = s.dispatchDue := rfl
@[simp] theorem State.setSupervisor_draws (s : State) (p : Supervisor) :
    (s.setSupervisor p).draws = s.draws := rfl
@[simp] theorem State.setSupervisor_pending (s : State) (p : Supervisor) :
    (s.setSupervisor p).pending = s.pending := rfl
@[simp] theorem State.setSupervisor_slot (s : State) (p : Supervisor) (k' : SlotIx) :
    (s.setSupervisor p).slot k' = s.slot k' := rfl
@[simp] theorem State.setSupervisor_station (s : State) (p : Supervisor) (j : Station) :
    (s.setSupervisor p).station j = s.station j := rfl

/-! ### informDispatcher -/

@[simp] theorem State.informDispatcher_clock (s : State) :
    (s.informDispatcher).clock = s.clock := rfl
@[simp] theorem State.informDispatcher_slots (s : State) :
    (s.informDispatcher).slots = s.slots := rfl
@[simp] theorem State.informDispatcher_arrival (s : State) :
    (s.informDispatcher).arrival = s.arrival := rfl
@[simp] theorem State.informDispatcher_tagCounter (s : State) :
    (s.informDispatcher).tagCounter = s.tagCounter := rfl
@[simp] theorem State.informDispatcher_stations (s : State) :
    (s.informDispatcher).stations = s.stations := rfl
@[simp] theorem State.informDispatcher_pool (s : State) :
    (s.informDispatcher).pool = s.pool := rfl
@[simp] theorem State.informDispatcher_queue (s : State) :
    (s.informDispatcher).queue = s.queue := rfl
@[simp] theorem State.informDispatcher_jobCounter (s : State) :
    (s.informDispatcher).jobCounter = s.jobCounter := rfl
@[simp] theorem State.informDispatcher_arbiter (s : State) :
    (s.informDispatcher).arbiter = s.arbiter := rfl
@[simp] theorem State.informDispatcher_shuttle (s : State) :
    (s.informDispatcher).shuttle = s.shuttle := rfl
@[simp] theorem State.informDispatcher_load (s : State) :
    (s.informDispatcher).load = s.load := rfl
@[simp] theorem State.informDispatcher_drive (s : State) :
    (s.informDispatcher).drive = s.drive := rfl
@[simp] theorem State.informDispatcher_params (s : State) :
    (s.informDispatcher).params = s.params := rfl
@[simp] theorem State.informDispatcher_attention (s : State) :
    (s.informDispatcher).attention = s.attention := rfl
@[simp] theorem State.informDispatcher_enable (s : State) :
    (s.informDispatcher).enable = s.enable := rfl
@[simp] theorem State.informDispatcher_supervisor (s : State) :
    (s.informDispatcher).supervisor = s.supervisor := rfl
@[simp] theorem State.informDispatcher_dispatchDue (s : State) :
    (s.informDispatcher).dispatchDue = true := rfl
@[simp] theorem State.informDispatcher_draws (s : State) :
    (s.informDispatcher).draws = s.draws := rfl
@[simp] theorem State.informDispatcher_pending (s : State) :
    (s.informDispatcher).pending = s.pending := rfl
@[simp] theorem State.informDispatcher_slot (s : State) (k' : SlotIx) :
    (s.informDispatcher).slot k' = s.slot k' := rfl
@[simp] theorem State.informDispatcher_station (s : State) (j : Station) :
    (s.informDispatcher).station j = s.station j := rfl

/-! ### transmitDrive -/

@[simp] theorem State.transmitDrive_clock (s : State) (f : Frame) :
    (s.transmitDrive f).clock = s.clock := rfl
@[simp] theorem State.transmitDrive_slots (s : State) (f : Frame) :
    (s.transmitDrive f).slots = s.slots := rfl
@[simp] theorem State.transmitDrive_arrival (s : State) (f : Frame) :
    (s.transmitDrive f).arrival = s.arrival := rfl
@[simp] theorem State.transmitDrive_tagCounter (s : State) (f : Frame) :
    (s.transmitDrive f).tagCounter = s.tagCounter := rfl
@[simp] theorem State.transmitDrive_stations (s : State) (f : Frame) :
    (s.transmitDrive f).stations = s.stations := rfl
@[simp] theorem State.transmitDrive_pool (s : State) (f : Frame) :
    (s.transmitDrive f).pool = s.pool := rfl
@[simp] theorem State.transmitDrive_queue (s : State) (f : Frame) :
    (s.transmitDrive f).queue = s.queue := rfl
@[simp] theorem State.transmitDrive_jobCounter (s : State) (f : Frame) :
    (s.transmitDrive f).jobCounter = s.jobCounter := rfl
@[simp] theorem State.transmitDrive_arbiter (s : State) (f : Frame) :
    (s.transmitDrive f).arbiter = s.arbiter := rfl
@[simp] theorem State.transmitDrive_shuttle (s : State) (f : Frame) :
    (s.transmitDrive f).shuttle = s.shuttle := rfl
@[simp] theorem State.transmitDrive_load (s : State) (f : Frame) :
    (s.transmitDrive f).load = s.load := rfl
@[simp] theorem State.transmitDrive_drive (s : State) (f : Frame) :
    (s.transmitDrive f).drive = { s.drive with tx := s.drive.tx ++ [f] } := rfl
@[simp] theorem State.transmitDrive_params (s : State) (f : Frame) :
    (s.transmitDrive f).params = s.params := rfl
@[simp] theorem State.transmitDrive_attention (s : State) (f : Frame) :
    (s.transmitDrive f).attention = s.attention := rfl
@[simp] theorem State.transmitDrive_enable (s : State) (f : Frame) :
    (s.transmitDrive f).enable = s.enable := rfl
@[simp] theorem State.transmitDrive_supervisor (s : State) (f : Frame) :
    (s.transmitDrive f).supervisor = s.supervisor := rfl
@[simp] theorem State.transmitDrive_dispatchDue (s : State) (f : Frame) :
    (s.transmitDrive f).dispatchDue = s.dispatchDue := rfl
@[simp] theorem State.transmitDrive_draws (s : State) (f : Frame) :
    (s.transmitDrive f).draws = s.draws := rfl
@[simp] theorem State.transmitDrive_pending (s : State) (f : Frame) :
    (s.transmitDrive f).pending = s.pending := rfl
@[simp] theorem State.transmitDrive_slot (s : State) (f : Frame) (k' : SlotIx) :
    (s.transmitDrive f).slot k' = s.slot k' := rfl
@[simp] theorem State.transmitDrive_station (s : State) (f : Frame) (j : Station) :
    (s.transmitDrive f).station j = s.station j := rfl

/-! ### enterIdle -/

@[simp] theorem State.enterIdle_clock (s : State) :
    (s.enterIdle).clock = s.clock := rfl
@[simp] theorem State.enterIdle_slots (s : State) :
    (s.enterIdle).slots = s.slots := rfl
@[simp] theorem State.enterIdle_arrival (s : State) :
    (s.enterIdle).arrival = s.arrival := rfl
@[simp] theorem State.enterIdle_tagCounter (s : State) :
    (s.enterIdle).tagCounter = s.tagCounter := rfl
@[simp] theorem State.enterIdle_stations (s : State) :
    (s.enterIdle).stations = s.stations := rfl
@[simp] theorem State.enterIdle_pool (s : State) :
    (s.enterIdle).pool = s.pool := rfl
@[simp] theorem State.enterIdle_queue (s : State) :
    (s.enterIdle).queue = s.queue := rfl
@[simp] theorem State.enterIdle_jobCounter (s : State) :
    (s.enterIdle).jobCounter = s.jobCounter := rfl
@[simp] theorem State.enterIdle_arbiter (s : State) :
    (s.enterIdle).arbiter = s.arbiter := rfl
@[simp] theorem State.enterIdle_shuttle (s : State) :
    (s.enterIdle).shuttle = .idle := rfl
@[simp] theorem State.enterIdle_load (s : State) :
    (s.enterIdle).load = s.load := rfl
@[simp] theorem State.enterIdle_drive (s : State) :
    (s.enterIdle).drive = { s.drive with pingOut := none, pingAt := some (timeAfter s.clock 10) } := rfl
@[simp] theorem State.enterIdle_params (s : State) :
    (s.enterIdle).params = s.params := rfl
@[simp] theorem State.enterIdle_attention (s : State) :
    (s.enterIdle).attention = s.attention := rfl
@[simp] theorem State.enterIdle_enable (s : State) :
    (s.enterIdle).enable = s.enable := rfl
@[simp] theorem State.enterIdle_supervisor (s : State) :
    (s.enterIdle).supervisor = s.supervisor := rfl
@[simp] theorem State.enterIdle_dispatchDue (s : State) :
    (s.enterIdle).dispatchDue = true := rfl
@[simp] theorem State.enterIdle_draws (s : State) :
    (s.enterIdle).draws = s.draws := rfl
@[simp] theorem State.enterIdle_pending (s : State) :
    (s.enterIdle).pending = s.pending := rfl
@[simp] theorem State.enterIdle_slot (s : State) (k' : SlotIx) :
    (s.enterIdle).slot k' = s.slot k' := rfl
@[simp] theorem State.enterIdle_station (s : State) (j : Station) :
    (s.enterIdle).station j = s.station j := rfl

/-! ### enterOffline -/

@[simp] theorem State.enterOffline_clock (s : State) :
    (s.enterOffline).clock = s.clock := rfl
@[simp] theorem State.enterOffline_slots (s : State) :
    (s.enterOffline).slots = s.slots := rfl
@[simp] theorem State.enterOffline_arrival (s : State) :
    (s.enterOffline).arrival = s.arrival := rfl
@[simp] theorem State.enterOffline_tagCounter (s : State) :
    (s.enterOffline).tagCounter = s.tagCounter := rfl
@[simp] theorem State.enterOffline_stations (s : State) :
    (s.enterOffline).stations = s.stations := rfl
@[simp] theorem State.enterOffline_pool (s : State) :
    (s.enterOffline).pool = s.pool := rfl
@[simp] theorem State.enterOffline_queue (s : State) :
    (s.enterOffline).queue = s.queue := rfl
@[simp] theorem State.enterOffline_jobCounter (s : State) :
    (s.enterOffline).jobCounter = s.jobCounter := rfl
@[simp] theorem State.enterOffline_arbiter (s : State) :
    (s.enterOffline).arbiter = s.arbiter := rfl
@[simp] theorem State.enterOffline_shuttle (s : State) :
    (s.enterOffline).shuttle = .offline := rfl
@[simp] theorem State.enterOffline_load (s : State) :
    (s.enterOffline).load = s.load := rfl
@[simp] theorem State.enterOffline_drive (s : State) :
    (s.enterOffline).drive = { s.drive with
      pingOut := none
      pingAt := if s.drive.ready then some (timeAfter s.clock 10) else none } := rfl
@[simp] theorem State.enterOffline_params (s : State) :
    (s.enterOffline).params = s.params := rfl
@[simp] theorem State.enterOffline_attention (s : State) :
    (s.enterOffline).attention = s.attention := rfl
@[simp] theorem State.enterOffline_enable (s : State) :
    (s.enterOffline).enable = s.enable := rfl
@[simp] theorem State.enterOffline_supervisor (s : State) :
    (s.enterOffline).supervisor = s.supervisor := rfl
@[simp] theorem State.enterOffline_dispatchDue (s : State) :
    (s.enterOffline).dispatchDue = s.dispatchDue := rfl
@[simp] theorem State.enterOffline_draws (s : State) :
    (s.enterOffline).draws = s.draws := rfl
@[simp] theorem State.enterOffline_pending (s : State) :
    (s.enterOffline).pending = s.pending := rfl
@[simp] theorem State.enterOffline_slot (s : State) (k' : SlotIx) :
    (s.enterOffline).slot k' = s.slot k' := rfl
@[simp] theorem State.enterOffline_station (s : State) (j : Station) :
    (s.enterOffline).station j = s.station j := rfl

/-! ### answer -/

@[simp] theorem State.answer_clock (s : State) (w : Write) (status : Byte) (p : List Byte) :
    (s.answer w status p).clock = s.clock := rfl
@[simp] theorem State.answer_slots (s : State) (w : Write) (status : Byte) (p : List Byte) :
    (s.answer w status p).slots = s.slots := rfl
@[simp] theorem State.answer_arrival (s : State) (w : Write) (status : Byte) (p : List Byte) :
    (s.answer w status p).arrival = s.arrival := rfl
@[simp] theorem State.answer_tagCounter (s : State) (w : Write) (status : Byte) (p : List Byte) :
    (s.answer w status p).tagCounter = s.tagCounter := rfl
@[simp] theorem State.answer_stations (s : State) (w : Write) (status : Byte) (p : List Byte) :
    (s.answer w status p).stations = s.stations := rfl
@[simp] theorem State.answer_pool (s : State) (w : Write) (status : Byte) (p : List Byte) :
    (s.answer w status p).pool = s.pool := rfl
@[simp] theorem State.answer_queue (s : State) (w : Write) (status : Byte) (p : List Byte) :
    (s.answer w status p).queue = s.queue := rfl
@[simp] theorem State.answer_jobCounter (s : State) (w : Write) (status : Byte) (p : List Byte) :
    (s.answer w status p).jobCounter = s.jobCounter := rfl
@[simp] theorem State.answer_arbiter (s : State) (w : Write) (status : Byte) (p : List Byte) :
    (s.answer w status p).arbiter = s.arbiter := rfl
@[simp] theorem State.answer_shuttle (s : State) (w : Write) (status : Byte) (p : List Byte) :
    (s.answer w status p).shuttle = s.shuttle := rfl
@[simp] theorem State.answer_load (s : State) (w : Write) (status : Byte) (p : List Byte) :
    (s.answer w status p).load = s.load := rfl
@[simp] theorem State.answer_drive (s : State) (w : Write) (status : Byte) (p : List Byte) :
    (s.answer w status p).drive = s.drive := rfl
@[simp] theorem State.answer_params (s : State) (w : Write) (status : Byte) (p : List Byte) :
    (s.answer w status p).params = s.params := rfl
@[simp] theorem State.answer_attention (s : State) (w : Write) (status : Byte) (p : List Byte) :
    (s.answer w status p).attention = s.attention := rfl
@[simp] theorem State.answer_enable (s : State) (w : Write) (status : Byte) (p : List Byte) :
    (s.answer w status p).enable = s.enable := rfl
@[simp] theorem State.answer_supervisor (s : State) (w : Write) (status : Byte) (p : List Byte) :
    (s.answer w status p).supervisor = { s.supervisor with
      answer := some ⟨w.tag, status, p⟩
      miso := List.replicate (4 + w.bytes.length) 0xFF#8 } := rfl
@[simp] theorem State.answer_dispatchDue (s : State) (w : Write) (status : Byte) (p : List Byte) :
    (s.answer w status p).dispatchDue = s.dispatchDue := rfl
@[simp] theorem State.answer_draws (s : State) (w : Write) (status : Byte) (p : List Byte) :
    (s.answer w status p).draws = s.draws := rfl
@[simp] theorem State.answer_pending (s : State) (w : Write) (status : Byte) (p : List Byte) :
    (s.answer w status p).pending = s.pending := rfl
@[simp] theorem State.answer_slot (s : State) (w : Write) (status : Byte) (p : List Byte) (k' : SlotIx) :
    (s.answer w status p).slot k' = s.slot k' := rfl
@[simp] theorem State.answer_station (s : State) (w : Write) (status : Byte) (p : List Byte) (j : Station) :
    (s.answer w status p).station j = s.station j := rfl

/-! ### ok -/

@[simp] theorem State.ok_clock (s : State) (w : Write) (p : List Byte) :
    (s.ok w p).clock = s.clock := rfl
@[simp] theorem State.ok_slots (s : State) (w : Write) (p : List Byte) :
    (s.ok w p).slots = s.slots := rfl
@[simp] theorem State.ok_arrival (s : State) (w : Write) (p : List Byte) :
    (s.ok w p).arrival = s.arrival := rfl
@[simp] theorem State.ok_tagCounter (s : State) (w : Write) (p : List Byte) :
    (s.ok w p).tagCounter = s.tagCounter := rfl
@[simp] theorem State.ok_stations (s : State) (w : Write) (p : List Byte) :
    (s.ok w p).stations = s.stations := rfl
@[simp] theorem State.ok_pool (s : State) (w : Write) (p : List Byte) :
    (s.ok w p).pool = s.pool := rfl
@[simp] theorem State.ok_queue (s : State) (w : Write) (p : List Byte) :
    (s.ok w p).queue = s.queue := rfl
@[simp] theorem State.ok_jobCounter (s : State) (w : Write) (p : List Byte) :
    (s.ok w p).jobCounter = s.jobCounter := rfl
@[simp] theorem State.ok_arbiter (s : State) (w : Write) (p : List Byte) :
    (s.ok w p).arbiter = s.arbiter := rfl
@[simp] theorem State.ok_shuttle (s : State) (w : Write) (p : List Byte) :
    (s.ok w p).shuttle = s.shuttle := rfl
@[simp] theorem State.ok_load (s : State) (w : Write) (p : List Byte) :
    (s.ok w p).load = s.load := rfl
@[simp] theorem State.ok_drive (s : State) (w : Write) (p : List Byte) :
    (s.ok w p).drive = s.drive := rfl
@[simp] theorem State.ok_params (s : State) (w : Write) (p : List Byte) :
    (s.ok w p).params = s.params := rfl
@[simp] theorem State.ok_attention (s : State) (w : Write) (p : List Byte) :
    (s.ok w p).attention = s.attention := rfl
@[simp] theorem State.ok_enable (s : State) (w : Write) (p : List Byte) :
    (s.ok w p).enable = s.enable := rfl
@[simp] theorem State.ok_supervisor (s : State) (w : Write) (p : List Byte) :
    (s.ok w p).supervisor = { s.supervisor with
      answer := some ⟨w.tag, 0x00#8, p⟩
      miso := List.replicate (4 + w.bytes.length) 0xFF#8 } := rfl
@[simp] theorem State.ok_dispatchDue (s : State) (w : Write) (p : List Byte) :
    (s.ok w p).dispatchDue = s.dispatchDue := rfl
@[simp] theorem State.ok_draws (s : State) (w : Write) (p : List Byte) :
    (s.ok w p).draws = s.draws := rfl
@[simp] theorem State.ok_pending (s : State) (w : Write) (p : List Byte) :
    (s.ok w p).pending = s.pending := rfl
@[simp] theorem State.ok_slot (s : State) (w : Write) (p : List Byte) (k' : SlotIx) :
    (s.ok w p).slot k' = s.slot k' := rfl
@[simp] theorem State.ok_station (s : State) (w : Write) (p : List Byte) (j : Station) :
    (s.ok w p).station j = s.station j := rfl

/-! ### data -/

@[simp] theorem State.data_clock (s : State) (w : Write) (p : List Byte) :
    (s.data w p).clock = s.clock := rfl
@[simp] theorem State.data_slots (s : State) (w : Write) (p : List Byte) :
    (s.data w p).slots = s.slots := rfl
@[simp] theorem State.data_arrival (s : State) (w : Write) (p : List Byte) :
    (s.data w p).arrival = s.arrival := rfl
@[simp] theorem State.data_tagCounter (s : State) (w : Write) (p : List Byte) :
    (s.data w p).tagCounter = s.tagCounter := rfl
@[simp] theorem State.data_stations (s : State) (w : Write) (p : List Byte) :
    (s.data w p).stations = s.stations := rfl
@[simp] theorem State.data_pool (s : State) (w : Write) (p : List Byte) :
    (s.data w p).pool = s.pool := rfl
@[simp] theorem State.data_queue (s : State) (w : Write) (p : List Byte) :
    (s.data w p).queue = s.queue := rfl
@[simp] theorem State.data_jobCounter (s : State) (w : Write) (p : List Byte) :
    (s.data w p).jobCounter = s.jobCounter := rfl
@[simp] theorem State.data_arbiter (s : State) (w : Write) (p : List Byte) :
    (s.data w p).arbiter = s.arbiter := rfl
@[simp] theorem State.data_shuttle (s : State) (w : Write) (p : List Byte) :
    (s.data w p).shuttle = s.shuttle := rfl
@[simp] theorem State.data_load (s : State) (w : Write) (p : List Byte) :
    (s.data w p).load = s.load := rfl
@[simp] theorem State.data_drive (s : State) (w : Write) (p : List Byte) :
    (s.data w p).drive = s.drive := rfl
@[simp] theorem State.data_params (s : State) (w : Write) (p : List Byte) :
    (s.data w p).params = s.params := rfl
@[simp] theorem State.data_attention (s : State) (w : Write) (p : List Byte) :
    (s.data w p).attention = s.attention := rfl
@[simp] theorem State.data_enable (s : State) (w : Write) (p : List Byte) :
    (s.data w p).enable = s.enable := rfl
@[simp] theorem State.data_supervisor (s : State) (w : Write) (p : List Byte) :
    (s.data w p).supervisor = { s.supervisor with
      answer := some ⟨w.tag, 0x01#8, p⟩
      miso := List.replicate (4 + w.bytes.length) 0xFF#8 } := rfl
@[simp] theorem State.data_dispatchDue (s : State) (w : Write) (p : List Byte) :
    (s.data w p).dispatchDue = s.dispatchDue := rfl
@[simp] theorem State.data_draws (s : State) (w : Write) (p : List Byte) :
    (s.data w p).draws = s.draws := rfl
@[simp] theorem State.data_pending (s : State) (w : Write) (p : List Byte) :
    (s.data w p).pending = s.pending := rfl
@[simp] theorem State.data_slot (s : State) (w : Write) (p : List Byte) (k' : SlotIx) :
    (s.data w p).slot k' = s.slot k' := rfl
@[simp] theorem State.data_station (s : State) (w : Write) (p : List Byte) (j : Station) :
    (s.data w p).station j = s.station j := rfl

/-! ### refuse -/

@[simp] theorem State.refuse_clock (s : State) (w : Write) (r : Reason) (n : Nat) :
    (s.refuse w r n).clock = s.clock := rfl
@[simp] theorem State.refuse_slots (s : State) (w : Write) (r : Reason) (n : Nat) :
    (s.refuse w r n).slots = s.slots := rfl
@[simp] theorem State.refuse_arrival (s : State) (w : Write) (r : Reason) (n : Nat) :
    (s.refuse w r n).arrival = s.arrival := rfl
@[simp] theorem State.refuse_tagCounter (s : State) (w : Write) (r : Reason) (n : Nat) :
    (s.refuse w r n).tagCounter = s.tagCounter := rfl
@[simp] theorem State.refuse_stations (s : State) (w : Write) (r : Reason) (n : Nat) :
    (s.refuse w r n).stations = s.stations := rfl
@[simp] theorem State.refuse_pool (s : State) (w : Write) (r : Reason) (n : Nat) :
    (s.refuse w r n).pool = s.pool := rfl
@[simp] theorem State.refuse_queue (s : State) (w : Write) (r : Reason) (n : Nat) :
    (s.refuse w r n).queue = s.queue := rfl
@[simp] theorem State.refuse_jobCounter (s : State) (w : Write) (r : Reason) (n : Nat) :
    (s.refuse w r n).jobCounter = s.jobCounter := rfl
@[simp] theorem State.refuse_arbiter (s : State) (w : Write) (r : Reason) (n : Nat) :
    (s.refuse w r n).arbiter = s.arbiter := rfl
@[simp] theorem State.refuse_shuttle (s : State) (w : Write) (r : Reason) (n : Nat) :
    (s.refuse w r n).shuttle = s.shuttle := rfl
@[simp] theorem State.refuse_load (s : State) (w : Write) (r : Reason) (n : Nat) :
    (s.refuse w r n).load = s.load := rfl
@[simp] theorem State.refuse_drive (s : State) (w : Write) (r : Reason) (n : Nat) :
    (s.refuse w r n).drive = s.drive := rfl
@[simp] theorem State.refuse_params (s : State) (w : Write) (r : Reason) (n : Nat) :
    (s.refuse w r n).params = s.params := rfl
@[simp] theorem State.refuse_attention (s : State) (w : Write) (r : Reason) (n : Nat) :
    (s.refuse w r n).attention = s.attention := rfl
@[simp] theorem State.refuse_enable (s : State) (w : Write) (r : Reason) (n : Nat) :
    (s.refuse w r n).enable = s.enable := rfl
@[simp] theorem State.refuse_supervisor (s : State) (w : Write) (r : Reason) (n : Nat) :
    (s.refuse w r n).supervisor = { s.supervisor with
      answer := some ⟨w.tag, 0x02#8, [nat8 r.code, nat8 n]⟩
      miso := List.replicate (4 + w.bytes.length) 0xFF#8 } := rfl
@[simp] theorem State.refuse_dispatchDue (s : State) (w : Write) (r : Reason) (n : Nat) :
    (s.refuse w r n).dispatchDue = s.dispatchDue := rfl
@[simp] theorem State.refuse_draws (s : State) (w : Write) (r : Reason) (n : Nat) :
    (s.refuse w r n).draws = s.draws := rfl
@[simp] theorem State.refuse_pending (s : State) (w : Write) (r : Reason) (n : Nat) :
    (s.refuse w r n).pending = s.pending := rfl
@[simp] theorem State.refuse_slot (s : State) (w : Write) (r : Reason) (n : Nat) (k' : SlotIx) :
    (s.refuse w r n).slot k' = s.slot k' := rfl
@[simp] theorem State.refuse_station (s : State) (w : Write) (r : Reason) (n : Nat) (j : Station) :
    (s.refuse w r n).station j = s.station j := rfl

/-! ### One record read after an update -/

@[simp] theorem State.setSlot_slot_same (s : State) (k : SlotIx) (v : Slot) : (s.setSlot k v).slot k = v := by
  simp [State.slot, State.setSlot]

theorem State.setSlot_slot_ne (s : State) (k k' : SlotIx) (v : Slot) (h : k' ≠ k) :
    (s.setSlot k v).slot k' = s.slot k' := by
  have h1 : k.val ≠ k'.val := fun e => h (Fin.ext e.symm)
  simp [State.slot, State.setSlot, h1]

theorem State.setSlot_slot (s : State) (k k' : SlotIx) (v : Slot) :
    (s.setSlot k v).slot k' = if k' = k then v else s.slot k' := by
  by_cases h : k' = k
  · subst h; simp
  · simp [h, State.setSlot_slot_ne]

@[simp] theorem State.setStation_station_same (s : State) (i : Station) (r : StationRec) :
    (s.setStation i r).station i = r := by
  simp [State.station, State.setStation]

theorem State.setStation_station_ne (s : State) (i j : Station) (r : StationRec) (h : j ≠ i) :
    (s.setStation i r).station j = s.station j := by
  have h1 : i.val ≠ j.val := fun e => h (Fin.ext e.symm)
  simp [State.station, State.setStation, h1]

theorem State.setStation_station (s : State) (i j : Station) (r : StationRec) :
    (s.setStation i r).station j = if j = i then r else s.station j := by
  by_cases h : j = i
  · subst h; simp
  · simp [h, State.setStation_station_ne]

@[simp] theorem State.modStation_station_same (s : State) (i : Station) (f : StationRec → StationRec) :
    (s.modStation i f).station i = f (s.station i) := s.setStation_station_same i _

theorem State.modStation_station_ne (s : State) (i j : Station) (f : StationRec → StationRec) (h : j ≠ i) :
    (s.modStation i f).station j = s.station j := s.setStation_station_ne i j _ h

theorem State.modStation_station (s : State) (i j : Station) (f : StationRec → StationRec) :
    (s.modStation i f).station j = if j = i then f (s.station i) else s.station j := s.setStation_station i j _

/-! ### Updates of one record composed -/

@[simp] theorem State.setStation_setStation (s : State) (i : Station) (r r' : StationRec) :
    (s.setStation i r).setStation i r' = s.setStation i r' := by
  simp [State.setStation]

@[simp] theorem State.setStation_station_self (s : State) (i : Station) : s.setStation i (s.station i) = s := by
  simp [State.setStation, State.station]

@[simp] theorem State.setSlot_setSlot (s : State) (k : SlotIx) (v v' : Slot) :
    (s.setSlot k v).setSlot k v' = s.setSlot k v' := by
  simp [State.setSlot]

@[simp] theorem State.setSlot_slot_self (s : State) (k : SlotIx) : s.setSlot k (s.slot k) = s := by
  simp [State.setSlot, State.slot]

theorem State.modStation_eq (s : State) (i : Station) (f : StationRec → StationRec) :
    s.modStation i f = s.setStation i (f (s.station i)) := rfl

/-- Two states with the same fields are the same state. -/
theorem State.ext_of_fields (s t : State) (h1 : s.clock = t.clock) (h2 : s.slots = t.slots) (h3 : s.arrival = t.arrival)
    (h4 : s.tagCounter = t.tagCounter) (h5 : s.stations = t.stations) (h6 : s.pool = t.pool) (h7 : s.queue = t.queue)
    (h8 : s.jobCounter = t.jobCounter) (h9 : s.arbiter = t.arbiter) (h10 : s.shuttle = t.shuttle) (h11 : s.load = t.load)
    (h12 : s.drive = t.drive) (h13 : s.params = t.params) (h14 : s.attention = t.attention) (h15 : s.enable = t.enable)
    (h16 : s.supervisor = t.supervisor) (h17 : s.dispatchDue = t.dispatchDue) (h18 : s.draws = t.draws)
    (h19 : s.pending = t.pending) : s = t := by
  cases s; cases t; simp_all

/-- Two tables of station records that agree at every station are the same. -/
theorem State.stations_ext (s t : State) (h : ∀ i : Station, s.station i = t.station i) : s.stations = t.stations := by
  apply Vector.ext
  intro n hn
  exact h ⟨n, hn⟩

end Sys2Proof.Machine
end

