-- ==== Sys2Proof/Laws/Frames.lean ====
section
/-! SUPPORT. The frame of each shared operation, said once: the fields it may change, with every other field of the state as
it was. A field not named is read off by rewriting with the lemma. -/

namespace Sys2Proof.Machine

theorem State.transmit_frame (s : State) (i : Station) (f : Frame) :
    s.transmit i f = { s with
      stations := (s.transmit i f).stations } := by
  apply State.ext_of_fields <;> (try with_reducible rfl) <;> simp only [State.transmit] <;> simp
@[simp] theorem State.transmit_clock (s : State) (i : Station) (f : Frame) : (s.transmit i f).clock = s.clock := by rw [s.transmit_frame i f]
@[simp] theorem State.transmit_slots (s : State) (i : Station) (f : Frame) : (s.transmit i f).slots = s.slots := by rw [s.transmit_frame i f]
@[simp] theorem State.transmit_arrival (s : State) (i : Station) (f : Frame) : (s.transmit i f).arrival = s.arrival := by rw [s.transmit_frame i f]
@[simp] theorem State.transmit_tagCounter (s : State) (i : Station) (f : Frame) : (s.transmit i f).tagCounter = s.tagCounter := by rw [s.transmit_frame i f]
@[simp] theorem State.transmit_pool (s : State) (i : Station) (f : Frame) : (s.transmit i f).pool = s.pool := by rw [s.transmit_frame i f]
@[simp] theorem State.transmit_queue (s : State) (i : Station) (f : Frame) : (s.transmit i f).queue = s.queue := by rw [s.transmit_frame i f]
@[simp] theorem State.transmit_jobCounter (s : State) (i : Station) (f : Frame) : (s.transmit i f).jobCounter = s.jobCounter := by rw [s.transmit_frame i f]
@[simp] theorem State.transmit_arbiter (s : State) (i : Station) (f : Frame) : (s.transmit i f).arbiter = s.arbiter := by rw [s.transmit_frame i f]
@[simp] theorem State.transmit_shuttle (s : State) (i : Station) (f : Frame) : (s.transmit i f).shuttle = s.shuttle := by rw [s.transmit_frame i f]
@[simp] theorem State.transmit_load (s : State) (i : Station) (f : Frame) : (s.transmit i f).load = s.load := by rw [s.transmit_frame i f]
@[simp] theorem State.transmit_drive (s : State) (i : Station) (f : Frame) : (s.transmit i f).drive = s.drive := by rw [s.transmit_frame i f]
@[simp] theorem State.transmit_params (s : State) (i : Station) (f : Frame) : (s.transmit i f).params = s.params := by rw [s.transmit_frame i f]
@[simp] theorem State.transmit_attention (s : State) (i : Station) (f : Frame) : (s.transmit i f).attention = s.attention := by rw [s.transmit_frame i f]
@[simp] theorem State.transmit_enable (s : State) (i : Station) (f : Frame) : (s.transmit i f).enable = s.enable := by rw [s.transmit_frame i f]
@[simp] theorem State.transmit_supervisor (s : State) (i : Station) (f : Frame) : (s.transmit i f).supervisor = s.supervisor := by rw [s.transmit_frame i f]
@[simp] theorem State.transmit_dispatchDue (s : State) (i : Station) (f : Frame) : (s.transmit i f).dispatchDue = s.dispatchDue := by rw [s.transmit_frame i f]
@[simp] theorem State.transmit_draws (s : State) (i : Station) (f : Frame) : (s.transmit i f).draws = s.draws := by rw [s.transmit_frame i f]
@[simp] theorem State.transmit_pending (s : State) (i : Station) (f : Frame) : (s.transmit i f).pending = s.pending := by rw [s.transmit_frame i f]
@[simp] theorem State.transmit_slot (s : State) (i : Station) (f : Frame) (k' : SlotIx) : (s.transmit i f).slot k' = s.slot k' := by simp [State.slot]

theorem State.notify_frame (s : State) (i : Station) (f : Frame) :
    s.notify i f = { s with
      stations := (s.notify i f).stations } := by
  apply State.ext_of_fields <;> (try with_reducible rfl) <;> simp only [State.notify] <;> (repeat' split) <;> simp
@[simp] theorem State.notify_clock (s : State) (i : Station) (f : Frame) : (s.notify i f).clock = s.clock := by rw [s.notify_frame i f]
@[simp] theorem State.notify_slots (s : State) (i : Station) (f : Frame) : (s.notify i f).slots = s.slots := by rw [s.notify_frame i f]
@[simp] theorem State.notify_arrival (s : State) (i : Station) (f : Frame) : (s.notify i f).arrival = s.arrival := by rw [s.notify_frame i f]
@[simp] theorem State.notify_tagCounter (s : State) (i : Station) (f : Frame) : (s.notify i f).tagCounter = s.tagCounter := by rw [s.notify_frame i f]
@[simp] theorem State.notify_pool (s : State) (i : Station) (f : Frame) : (s.notify i f).pool = s.pool := by rw [s.notify_frame i f]
@[simp] theorem State.notify_queue (s : State) (i : Station) (f : Frame) : (s.notify i f).queue = s.queue := by rw [s.notify_frame i f]
@[simp] theorem State.notify_jobCounter (s : State) (i : Station) (f : Frame) : (s.notify i f).jobCounter = s.jobCounter := by rw [s.notify_frame i f]
@[simp] theorem State.notify_arbiter (s : State) (i : Station) (f : Frame) : (s.notify i f).arbiter = s.arbiter := by rw [s.notify_frame i f]
@[simp] theorem State.notify_shuttle (s : State) (i : Station) (f : Frame) : (s.notify i f).shuttle = s.shuttle := by rw [s.notify_frame i f]
@[simp] theorem State.notify_load (s : State) (i : Station) (f : Frame) : (s.notify i f).load = s.load := by rw [s.notify_frame i f]
@[simp] theorem State.notify_drive (s : State) (i : Station) (f : Frame) : (s.notify i f).drive = s.drive := by rw [s.notify_frame i f]
@[simp] theorem State.notify_params (s : State) (i : Station) (f : Frame) : (s.notify i f).params = s.params := by rw [s.notify_frame i f]
@[simp] theorem State.notify_attention (s : State) (i : Station) (f : Frame) : (s.notify i f).attention = s.attention := by rw [s.notify_frame i f]
@[simp] theorem State.notify_enable (s : State) (i : Station) (f : Frame) : (s.notify i f).enable = s.enable := by rw [s.notify_frame i f]
@[simp] theorem State.notify_supervisor (s : State) (i : Station) (f : Frame) : (s.notify i f).supervisor = s.supervisor := by rw [s.notify_frame i f]
@[simp] theorem State.notify_dispatchDue (s : State) (i : Station) (f : Frame) : (s.notify i f).dispatchDue = s.dispatchDue := by rw [s.notify_frame i f]
@[simp] theorem State.notify_draws (s : State) (i : Station) (f : Frame) : (s.notify i f).draws = s.draws := by rw [s.notify_frame i f]
@[simp] theorem State.notify_pending (s : State) (i : Station) (f : Frame) : (s.notify i f).pending = s.pending := by rw [s.notify_frame i f]
@[simp] theorem State.notify_slot (s : State) (i : Station) (f : Frame) (k' : SlotIx) : (s.notify i f).slot k' = s.slot k' := by simp [State.slot]

theorem State.raiseEvent_frame (s : State) (c : Cause) (sc : Scope) (d : Nat) :
    s.raiseEvent c sc d = { s with
      attention := (s.raiseEvent c sc d).attention } := by
  apply State.ext_of_fields <;> (try with_reducible rfl) <;> simp only [State.raiseEvent] <;> (repeat' split) <;> simp
@[simp] theorem State.raiseEvent_clock (s : State) (c : Cause) (sc : Scope) (d : Nat) : (s.raiseEvent c sc d).clock = s.clock := by rw [s.raiseEvent_frame c sc d]
@[simp] theorem State.raiseEvent_slots (s : State) (c : Cause) (sc : Scope) (d : Nat) : (s.raiseEvent c sc d).slots = s.slots := by rw [s.raiseEvent_frame c sc d]
@[simp] theorem State.raiseEvent_arrival (s : State) (c : Cause) (sc : Scope) (d : Nat) : (s.raiseEvent c sc d).arrival = s.arrival := by rw [s.raiseEvent_frame c sc d]
@[simp] theorem State.raiseEvent_tagCounter (s : State) (c : Cause) (sc : Scope) (d : Nat) : (s.raiseEvent c sc d).tagCounter = s.tagCounter := by rw [s.raiseEvent_frame c sc d]
@[simp] theorem State.raiseEvent_stations (s : State) (c : Cause) (sc : Scope) (d : Nat) : (s.raiseEvent c sc d).stations = s.stations := by rw [s.raiseEvent_frame c sc d]
@[simp] theorem State.raiseEvent_pool (s : State) (c : Cause) (sc : Scope) (d : Nat) : (s.raiseEvent c sc d).pool = s.pool := by rw [s.raiseEvent_frame c sc d]
@[simp] theorem State.raiseEvent_queue (s : State) (c : Cause) (sc : Scope) (d : Nat) : (s.raiseEvent c sc d).queue = s.queue := by rw [s.raiseEvent_frame c sc d]
@[simp] theorem State.raiseEvent_jobCounter (s : State) (c : Cause) (sc : Scope) (d : Nat) : (s.raiseEvent c sc d).jobCounter = s.jobCounter := by rw [s.raiseEvent_frame c sc d]
@[simp] theorem State.raiseEvent_arbiter (s : State) (c : Cause) (sc : Scope) (d : Nat) : (s.raiseEvent c sc d).arbiter = s.arbiter := by rw [s.raiseEvent_frame c sc d]
@[simp] theorem State.raiseEvent_shuttle (s : State) (c : Cause) (sc : Scope) (d : Nat) : (s.raiseEvent c sc d).shuttle = s.shuttle := by rw [s.raiseEvent_frame c sc d]
@[simp] theorem State.raiseEvent_load (s : State) (c : Cause) (sc : Scope) (d : Nat) : (s.raiseEvent c sc d).load = s.load := by rw [s.raiseEvent_frame c sc d]
@[simp] theorem State.raiseEvent_drive (s : State) (c : Cause) (sc : Scope) (d : Nat) : (s.raiseEvent c sc d).drive = s.drive := by rw [s.raiseEvent_frame c sc d]
@[simp] theorem State.raiseEvent_params (s : State) (c : Cause) (sc : Scope) (d : Nat) : (s.raiseEvent c sc d).params = s.params := by rw [s.raiseEvent_frame c sc d]
@[simp] theorem State.raiseEvent_enable (s : State) (c : Cause) (sc : Scope) (d : Nat) : (s.raiseEvent c sc d).enable = s.enable := by rw [s.raiseEvent_frame c sc d]
@[simp] theorem State.raiseEvent_supervisor (s : State) (c : Cause) (sc : Scope) (d : Nat) : (s.raiseEvent c sc d).supervisor = s.supervisor := by rw [s.raiseEvent_frame c sc d]
@[simp] theorem State.raiseEvent_dispatchDue (s : State) (c : Cause) (sc : Scope) (d : Nat) : (s.raiseEvent c sc d).dispatchDue = s.dispatchDue := by rw [s.raiseEvent_frame c sc d]
@[simp] theorem State.raiseEvent_draws (s : State) (c : Cause) (sc : Scope) (d : Nat) : (s.raiseEvent c sc d).draws = s.draws := by rw [s.raiseEvent_frame c sc d]
@[simp] theorem State.raiseEvent_pending (s : State) (c : Cause) (sc : Scope) (d : Nat) : (s.raiseEvent c sc d).pending = s.pending := by rw [s.raiseEvent_frame c sc d]
@[simp] theorem State.raiseEvent_slot (s : State) (c : Cause) (sc : Scope) (d : Nat) (k' : SlotIx) : (s.raiseEvent c sc d).slot k' = s.slot k' := by simp [State.slot]
@[simp] theorem State.raiseEvent_station (s : State) (c : Cause) (sc : Scope) (d : Nat) (j' : Station) : (s.raiseEvent c sc d).station j' = s.station j' := by simp [State.station]

theorem State.raiseCondition_frame (s : State) (c : Cause) (sc : Scope) (d : Nat) :
    s.raiseCondition c sc d = { s with
      attention := (s.raiseCondition c sc d).attention } := by
  apply State.ext_of_fields <;> (try with_reducible rfl) <;> simp only [State.raiseCondition] <;> (repeat' split) <;> simp
@[simp] theorem State.raiseCondition_clock (s : State) (c : Cause) (sc : Scope) (d : Nat) : (s.raiseCondition c sc d).clock = s.clock := by rw [s.raiseCondition_frame c sc d]
@[simp] theorem State.raiseCondition_slots (s : State) (c : Cause) (sc : Scope) (d : Nat) : (s.raiseCondition c sc d).slots = s.slots := by rw [s.raiseCondition_frame c sc d]
@[simp] theorem State.raiseCondition_arrival (s : State) (c : Cause) (sc : Scope) (d : Nat) : (s.raiseCondition c sc d).arrival = s.arrival := by rw [s.raiseCondition_frame c sc d]
@[simp] theorem State.raiseCondition_tagCounter (s : State) (c : Cause) (sc : Scope) (d : Nat) : (s.raiseCondition c sc d).tagCounter = s.tagCounter := by rw [s.raiseCondition_frame c sc d]
@[simp] theorem State.raiseCondition_stations (s : State) (c : Cause) (sc : Scope) (d : Nat) : (s.raiseCondition c sc d).stations = s.stations := by rw [s.raiseCondition_frame c sc d]
@[simp] theorem State.raiseCondition_pool (s : State) (c : Cause) (sc : Scope) (d : Nat) : (s.raiseCondition c sc d).pool = s.pool := by rw [s.raiseCondition_frame c sc d]
@[simp] theorem State.raiseCondition_queue (s : State) (c : Cause) (sc : Scope) (d : Nat) : (s.raiseCondition c sc d).queue = s.queue := by rw [s.raiseCondition_frame c sc d]
@[simp] theorem State.raiseCondition_jobCounter (s : State) (c : Cause) (sc : Scope) (d : Nat) : (s.raiseCondition c sc d).jobCounter = s.jobCounter := by rw [s.raiseCondition_frame c sc d]
@[simp] theorem State.raiseCondition_arbiter (s : State) (c : Cause) (sc : Scope) (d : Nat) : (s.raiseCondition c sc d).arbiter = s.arbiter := by rw [s.raiseCondition_frame c sc d]
@[simp] theorem State.raiseCondition_shuttle (s : State) (c : Cause) (sc : Scope) (d : Nat) : (s.raiseCondition c sc d).shuttle = s.shuttle := by rw [s.raiseCondition_frame c sc d]
@[simp] theorem State.raiseCondition_load (s : State) (c : Cause) (sc : Scope) (d : Nat) : (s.raiseCondition c sc d).load = s.load := by rw [s.raiseCondition_frame c sc d]
@[simp] theorem State.raiseCondition_drive (s : State) (c : Cause) (sc : Scope) (d : Nat) : (s.raiseCondition c sc d).drive = s.drive := by rw [s.raiseCondition_frame c sc d]
@[simp] theorem State.raiseCondition_params (s : State) (c : Cause) (sc : Scope) (d : Nat) : (s.raiseCondition c sc d).params = s.params := by rw [s.raiseCondition_frame c sc d]
@[simp] theorem State.raiseCondition_enable (s : State) (c : Cause) (sc : Scope) (d : Nat) : (s.raiseCondition c sc d).enable = s.enable := by rw [s.raiseCondition_frame c sc d]
@[simp] theorem State.raiseCondition_supervisor (s : State) (c : Cause) (sc : Scope) (d : Nat) : (s.raiseCondition c sc d).supervisor = s.supervisor := by rw [s.raiseCondition_frame c sc d]
@[simp] theorem State.raiseCondition_dispatchDue (s : State) (c : Cause) (sc : Scope) (d : Nat) : (s.raiseCondition c sc d).dispatchDue = s.dispatchDue := by rw [s.raiseCondition_frame c sc d]
@[simp] theorem State.raiseCondition_draws (s : State) (c : Cause) (sc : Scope) (d : Nat) : (s.raiseCondition c sc d).draws = s.draws := by rw [s.raiseCondition_frame c sc d]
@[simp] theorem State.raiseCondition_pending (s : State) (c : Cause) (sc : Scope) (d : Nat) : (s.raiseCondition c sc d).pending = s.pending := by rw [s.raiseCondition_frame c sc d]
@[simp] theorem State.raiseCondition_slot (s : State) (c : Cause) (sc : Scope) (d : Nat) (k' : SlotIx) : (s.raiseCondition c sc d).slot k' = s.slot k' := by simp [State.slot]
@[simp] theorem State.raiseCondition_station (s : State) (c : Cause) (sc : Scope) (d : Nat) (j' : Station) : (s.raiseCondition c sc d).station j' = s.station j' := by simp [State.station]

theorem State.holdCondition_frame (s : State) (c : Cause) (sc : Scope) (d : Nat) :
    s.holdCondition c sc d = { s with
      attention := (s.holdCondition c sc d).attention } := by
  apply State.ext_of_fields <;> (try with_reducible rfl) <;> simp only [State.holdCondition] <;> (repeat' split) <;> simp
@[simp] theorem State.holdCondition_clock (s : State) (c : Cause) (sc : Scope) (d : Nat) : (s.holdCondition c sc d).clock = s.clock := by rw [s.holdCondition_frame c sc d]
@[simp] theorem State.holdCondition_slots (s : State) (c : Cause) (sc : Scope) (d : Nat) : (s.holdCondition c sc d).slots = s.slots := by rw [s.holdCondition_frame c sc d]
@[simp] theorem State.holdCondition_arrival (s : State) (c : Cause) (sc : Scope) (d : Nat) : (s.holdCondition c sc d).arrival = s.arrival := by rw [s.holdCondition_frame c sc d]
@[simp] theorem State.holdCondition_tagCounter (s : State) (c : Cause) (sc : Scope) (d : Nat) : (s.holdCondition c sc d).tagCounter = s.tagCounter := by rw [s.holdCondition_frame c sc d]
@[simp] theorem State.holdCondition_stations (s : State) (c : Cause) (sc : Scope) (d : Nat) : (s.holdCondition c sc d).stations = s.stations := by rw [s.holdCondition_frame c sc d]
@[simp] theorem State.holdCondition_pool (s : State) (c : Cause) (sc : Scope) (d : Nat) : (s.holdCondition c sc d).pool = s.pool := by rw [s.holdCondition_frame c sc d]
@[simp] theorem State.holdCondition_queue (s : State) (c : Cause) (sc : Scope) (d : Nat) : (s.holdCondition c sc d).queue = s.queue := by rw [s.holdCondition_frame c sc d]
@[simp] theorem State.holdCondition_jobCounter (s : State) (c : Cause) (sc : Scope) (d : Nat) : (s.holdCondition c sc d).jobCounter = s.jobCounter := by rw [s.holdCondition_frame c sc d]
@[simp] theorem State.holdCondition_arbiter (s : State) (c : Cause) (sc : Scope) (d : Nat) : (s.holdCondition c sc d).arbiter = s.arbiter := by rw [s.holdCondition_frame c sc d]
@[simp] theorem State.holdCondition_shuttle (s : State) (c : Cause) (sc : Scope) (d : Nat) : (s.holdCondition c sc d).shuttle = s.shuttle := by rw [s.holdCondition_frame c sc d]
@[simp] theorem State.holdCondition_load (s : State) (c : Cause) (sc : Scope) (d : Nat) : (s.holdCondition c sc d).load = s.load := by rw [s.holdCondition_frame c sc d]
@[simp] theorem State.holdCondition_drive (s : State) (c : Cause) (sc : Scope) (d : Nat) : (s.holdCondition c sc d).drive = s.drive := by rw [s.holdCondition_frame c sc d]
@[simp] theorem State.holdCondition_params (s : State) (c : Cause) (sc : Scope) (d : Nat) : (s.holdCondition c sc d).params = s.params := by rw [s.holdCondition_frame c sc d]
@[simp] theorem State.holdCondition_enable (s : State) (c : Cause) (sc : Scope) (d : Nat) : (s.holdCondition c sc d).enable = s.enable := by rw [s.holdCondition_frame c sc d]
@[simp] theorem State.holdCondition_supervisor (s : State) (c : Cause) (sc : Scope) (d : Nat) : (s.holdCondition c sc d).supervisor = s.supervisor := by rw [s.holdCondition_frame c sc d]
@[simp] theorem State.holdCondition_dispatchDue (s : State) (c : Cause) (sc : Scope) (d : Nat) : (s.holdCondition c sc d).dispatchDue = s.dispatchDue := by rw [s.holdCondition_frame c sc d]
@[simp] theorem State.holdCondition_draws (s : State) (c : Cause) (sc : Scope) (d : Nat) : (s.holdCondition c sc d).draws = s.draws := by rw [s.holdCondition_frame c sc d]
@[simp] theorem State.holdCondition_pending (s : State) (c : Cause) (sc : Scope) (d : Nat) : (s.holdCondition c sc d).pending = s.pending := by rw [s.holdCondition_frame c sc d]
@[simp] theorem State.holdCondition_slot (s : State) (c : Cause) (sc : Scope) (d : Nat) (k' : SlotIx) : (s.holdCondition c sc d).slot k' = s.slot k' := by simp [State.slot]
@[simp] theorem State.holdCondition_station (s : State) (c : Cause) (sc : Scope) (d : Nat) (j' : Station) : (s.holdCondition c sc d).station j' = s.station j' := by simp [State.station]

theorem State.endCondition_frame (s : State) (c : Cause) (sc : Scope) :
    s.endCondition c sc = { s with
      attention := (s.endCondition c sc).attention } := by
  apply State.ext_of_fields <;> (try with_reducible rfl) <;> simp only [State.endCondition] <;> simp
@[simp] theorem State.endCondition_clock (s : State) (c : Cause) (sc : Scope) : (s.endCondition c sc).clock = s.clock := by rw [s.endCondition_frame c sc]
@[simp] theorem State.endCondition_slots (s : State) (c : Cause) (sc : Scope) : (s.endCondition c sc).slots = s.slots := by rw [s.endCondition_frame c sc]
@[simp] theorem State.endCondition_arrival (s : State) (c : Cause) (sc : Scope) : (s.endCondition c sc).arrival = s.arrival := by rw [s.endCondition_frame c sc]
@[simp] theorem State.endCondition_tagCounter (s : State) (c : Cause) (sc : Scope) : (s.endCondition c sc).tagCounter = s.tagCounter := by rw [s.endCondition_frame c sc]
@[simp] theorem State.endCondition_stations (s : State) (c : Cause) (sc : Scope) : (s.endCondition c sc).stations = s.stations := by rw [s.endCondition_frame c sc]
@[simp] theorem State.endCondition_pool (s : State) (c : Cause) (sc : Scope) : (s.endCondition c sc).pool = s.pool := by rw [s.endCondition_frame c sc]
@[simp] theorem State.endCondition_queue (s : State) (c : Cause) (sc : Scope) : (s.endCondition c sc).queue = s.queue := by rw [s.endCondition_frame c sc]
@[simp] theorem State.endCondition_jobCounter (s : State) (c : Cause) (sc : Scope) : (s.endCondition c sc).jobCounter = s.jobCounter := by rw [s.endCondition_frame c sc]
@[simp] theorem State.endCondition_arbiter (s : State) (c : Cause) (sc : Scope) : (s.endCondition c sc).arbiter = s.arbiter := by rw [s.endCondition_frame c sc]
@[simp] theorem State.endCondition_shuttle (s : State) (c : Cause) (sc : Scope) : (s.endCondition c sc).shuttle = s.shuttle := by rw [s.endCondition_frame c sc]
@[simp] theorem State.endCondition_load (s : State) (c : Cause) (sc : Scope) : (s.endCondition c sc).load = s.load := by rw [s.endCondition_frame c sc]
@[simp] theorem State.endCondition_drive (s : State) (c : Cause) (sc : Scope) : (s.endCondition c sc).drive = s.drive := by rw [s.endCondition_frame c sc]
@[simp] theorem State.endCondition_params (s : State) (c : Cause) (sc : Scope) : (s.endCondition c sc).params = s.params := by rw [s.endCondition_frame c sc]
@[simp] theorem State.endCondition_enable (s : State) (c : Cause) (sc : Scope) : (s.endCondition c sc).enable = s.enable := by rw [s.endCondition_frame c sc]
@[simp] theorem State.endCondition_supervisor (s : State) (c : Cause) (sc : Scope) : (s.endCondition c sc).supervisor = s.supervisor := by rw [s.endCondition_frame c sc]
@[simp] theorem State.endCondition_dispatchDue (s : State) (c : Cause) (sc : Scope) : (s.endCondition c sc).dispatchDue = s.dispatchDue := by rw [s.endCondition_frame c sc]
@[simp] theorem State.endCondition_draws (s : State) (c : Cause) (sc : Scope) : (s.endCondition c sc).draws = s.draws := by rw [s.endCondition_frame c sc]
@[simp] theorem State.endCondition_pending (s : State) (c : Cause) (sc : Scope) : (s.endCondition c sc).pending = s.pending := by rw [s.endCondition_frame c sc]
@[simp] theorem State.endCondition_slot (s : State) (c : Cause) (sc : Scope) (k' : SlotIx) : (s.endCondition c sc).slot k' = s.slot k' := by simp [State.slot]
@[simp] theorem State.endCondition_station (s : State) (c : Cause) (sc : Scope) (j' : Station) : (s.endCondition c sc).station j' = s.station j' := by simp [State.station]

theorem State.testPool_frame (s : State) :
    s.testPool = { s with
      attention := s.testPool.attention } := by
  apply State.ext_of_fields <;> (try with_reducible rfl) <;> simp only [State.testPool] <;> (repeat' split) <;> simp
@[simp] theorem State.testPool_clock (s : State) : s.testPool.clock = s.clock := by rw [s.testPool_frame]
@[simp] theorem State.testPool_slots (s : State) : s.testPool.slots = s.slots := by rw [s.testPool_frame]
@[simp] theorem State.testPool_arrival (s : State) : s.testPool.arrival = s.arrival := by rw [s.testPool_frame]
@[simp] theorem State.testPool_tagCounter (s : State) : s.testPool.tagCounter = s.tagCounter := by rw [s.testPool_frame]
@[simp] theorem State.testPool_stations (s : State) : s.testPool.stations = s.stations := by rw [s.testPool_frame]
@[simp] theorem State.testPool_pool (s : State) : s.testPool.pool = s.pool := by rw [s.testPool_frame]
@[simp] theorem State.testPool_queue (s : State) : s.testPool.queue = s.queue := by rw [s.testPool_frame]
@[simp] theorem State.testPool_jobCounter (s : State) : s.testPool.jobCounter = s.jobCounter := by rw [s.testPool_frame]
@[simp] theorem State.testPool_arbiter (s : State) : s.testPool.arbiter = s.arbiter := by rw [s.testPool_frame]
@[simp] theorem State.testPool_shuttle (s : State) : s.testPool.shuttle = s.shuttle := by rw [s.testPool_frame]
@[simp] theorem State.testPool_load (s : State) : s.testPool.load = s.load := by rw [s.testPool_frame]
@[simp] theorem State.testPool_drive (s : State) : s.testPool.drive = s.drive := by rw [s.testPool_frame]
@[simp] theorem State.testPool_params (s : State) : s.testPool.params = s.params := by rw [s.testPool_frame]
@[simp] theorem State.testPool_enable (s : State) : s.testPool.enable = s.enable := by rw [s.testPool_frame]
@[simp] theorem State.testPool_supervisor (s : State) : s.testPool.supervisor = s.supervisor := by rw [s.testPool_frame]
@[simp] theorem State.testPool_dispatchDue (s : State) : s.testPool.dispatchDue = s.dispatchDue := by rw [s.testPool_frame]
@[simp] theorem State.testPool_draws (s : State) : s.testPool.draws = s.draws := by rw [s.testPool_frame]
@[simp] theorem State.testPool_pending (s : State) : s.testPool.pending = s.pending := by rw [s.testPool_frame]
@[simp] theorem State.testPool_slot (s : State) (k' : SlotIx) : s.testPool.slot k' = s.slot k' := by simp [State.slot]
@[simp] theorem State.testPool_station (s : State) (j' : Station) : s.testPool.station j' = s.station j' := by simp [State.station]

theorem State.setPool_frame (s : State) (p : Pool) :
    s.setPool p = { s with
      pool := (s.setPool p).pool
      attention := (s.setPool p).attention
      dispatchDue := (s.setPool p).dispatchDue } := by
  apply State.ext_of_fields <;> (try with_reducible rfl) <;> simp only [State.setPool] <;> (repeat' split) <;> simp
@[simp] theorem State.setPool_clock (s : State) (p : Pool) : (s.setPool p).clock = s.clock := by rw [s.setPool_frame p]
@[simp] theorem State.setPool_slots (s : State) (p : Pool) : (s.setPool p).slots = s.slots := by rw [s.setPool_frame p]
@[simp] theorem State.setPool_arrival (s : State) (p : Pool) : (s.setPool p).arrival = s.arrival := by rw [s.setPool_frame p]
@[simp] theorem State.setPool_tagCounter (s : State) (p : Pool) : (s.setPool p).tagCounter = s.tagCounter := by rw [s.setPool_frame p]
@[simp] theorem State.setPool_stations (s : State) (p : Pool) : (s.setPool p).stations = s.stations := by rw [s.setPool_frame p]
@[simp] theorem State.setPool_queue (s : State) (p : Pool) : (s.setPool p).queue = s.queue := by rw [s.setPool_frame p]
@[simp] theorem State.setPool_jobCounter (s : State) (p : Pool) : (s.setPool p).jobCounter = s.jobCounter := by rw [s.setPool_frame p]
@[simp] theorem State.setPool_arbiter (s : State) (p : Pool) : (s.setPool p).arbiter = s.arbiter := by rw [s.setPool_frame p]
@[simp] theorem State.setPool_shuttle (s : State) (p : Pool) : (s.setPool p).shuttle = s.shuttle := by rw [s.setPool_frame p]
@[simp] theorem State.setPool_load (s : State) (p : Pool) : (s.setPool p).load = s.load := by rw [s.setPool_frame p]
@[simp] theorem State.setPool_drive (s : State) (p : Pool) : (s.setPool p).drive = s.drive := by rw [s.setPool_frame p]
@[simp] theorem State.setPool_params (s : State) (p : Pool) : (s.setPool p).params = s.params := by rw [s.setPool_frame p]
@[simp] theorem State.setPool_enable (s : State) (p : Pool) : (s.setPool p).enable = s.enable := by rw [s.setPool_frame p]
@[simp] theorem State.setPool_supervisor (s : State) (p : Pool) : (s.setPool p).supervisor = s.supervisor := by rw [s.setPool_frame p]
@[simp] theorem State.setPool_draws (s : State) (p : Pool) : (s.setPool p).draws = s.draws := by rw [s.setPool_frame p]
@[simp] theorem State.setPool_pending (s : State) (p : Pool) : (s.setPool p).pending = s.pending := by rw [s.setPool_frame p]
@[simp] theorem State.setPool_slot (s : State) (p : Pool) (k' : SlotIx) : (s.setPool p).slot k' = s.slot k' := by simp [State.slot]
@[simp] theorem State.setPool_station (s : State) (p : Pool) (j' : Station) : (s.setPool p).station j' = s.station j' := by simp [State.station]

theorem State.testStockOut_frame (s : State) (i : Station) :
    s.testStockOut i = { s with
      attention := (s.testStockOut i).attention } := by
  apply State.ext_of_fields <;> (try with_reducible rfl) <;> simp only [State.testStockOut] <;> (repeat' split) <;> simp
@[simp] theorem State.testStockOut_clock (s : State) (i : Station) : (s.testStockOut i).clock = s.clock := by rw [s.testStockOut_frame i]
@[simp] theorem State.testStockOut_slots (s : State) (i : Station) : (s.testStockOut i).slots = s.slots := by rw [s.testStockOut_frame i]
@[simp] theorem State.testStockOut_arrival (s : State) (i : Station) : (s.testStockOut i).arrival = s.arrival := by rw [s.testStockOut_frame i]
@[simp] theorem State.testStockOut_tagCounter (s : State) (i : Station) : (s.testStockOut i).tagCounter = s.tagCounter := by rw [s.testStockOut_frame i]
@[simp] theorem State.testStockOut_stations (s : State) (i : Station) : (s.testStockOut i).stations = s.stations := by rw [s.testStockOut_frame i]
@[simp] theorem State.testStockOut_pool (s : State) (i : Station) : (s.testStockOut i).pool = s.pool := by rw [s.testStockOut_frame i]
@[simp] theorem State.testStockOut_queue (s : State) (i : Station) : (s.testStockOut i).queue = s.queue := by rw [s.testStockOut_frame i]
@[simp] theorem State.testStockOut_jobCounter (s : State) (i : Station) : (s.testStockOut i).jobCounter = s.jobCounter := by rw [s.testStockOut_frame i]
@[simp] theorem State.testStockOut_arbiter (s : State) (i : Station) : (s.testStockOut i).arbiter = s.arbiter := by rw [s.testStockOut_frame i]
@[simp] theorem State.testStockOut_shuttle (s : State) (i : Station) : (s.testStockOut i).shuttle = s.shuttle := by rw [s.testStockOut_frame i]
@[simp] theorem State.testStockOut_load (s : State) (i : Station) : (s.testStockOut i).load = s.load := by rw [s.testStockOut_frame i]
@[simp] theorem State.testStockOut_drive (s : State) (i : Station) : (s.testStockOut i).drive = s.drive := by rw [s.testStockOut_frame i]
@[simp] theorem State.testStockOut_params (s : State) (i : Station) : (s.testStockOut i).params = s.params := by rw [s.testStockOut_frame i]
@[simp] theorem State.testStockOut_enable (s : State) (i : Station) : (s.testStockOut i).enable = s.enable := by rw [s.testStockOut_frame i]
@[simp] theorem State.testStockOut_supervisor (s : State) (i : Station) : (s.testStockOut i).supervisor = s.supervisor := by rw [s.testStockOut_frame i]
@[simp] theorem State.testStockOut_dispatchDue (s : State) (i : Station) : (s.testStockOut i).dispatchDue = s.dispatchDue := by rw [s.testStockOut_frame i]
@[simp] theorem State.testStockOut_draws (s : State) (i : Station) : (s.testStockOut i).draws = s.draws := by rw [s.testStockOut_frame i]
@[simp] theorem State.testStockOut_pending (s : State) (i : Station) : (s.testStockOut i).pending = s.pending := by rw [s.testStockOut_frame i]
@[simp] theorem State.testStockOut_slot (s : State) (i : Station) (k' : SlotIx) : (s.testStockOut i).slot k' = s.slot k' := by simp [State.slot]
@[simp] theorem State.testStockOut_station (s : State) (i : Station) (j' : Station) : (s.testStockOut i).station j' = s.station j' := by simp [State.station]

theorem State.testDeparture_frame (s : State) (j : Job) :
    s.testDeparture j = { s with
      attention := (s.testDeparture j).attention } := by
  apply State.ext_of_fields <;> (try with_reducible rfl) <;> simp only [State.testDeparture] <;> simp
@[simp] theorem State.testDeparture_clock (s : State) (j : Job) : (s.testDeparture j).clock = s.clock := by rw [s.testDeparture_frame j]
@[simp] theorem State.testDeparture_slots (s : State) (j : Job) : (s.testDeparture j).slots = s.slots := by rw [s.testDeparture_frame j]
@[simp] theorem State.testDeparture_arrival (s : State) (j : Job) : (s.testDeparture j).arrival = s.arrival := by rw [s.testDeparture_frame j]
@[simp] theorem State.testDeparture_tagCounter (s : State) (j : Job) : (s.testDeparture j).tagCounter = s.tagCounter := by rw [s.testDeparture_frame j]
@[simp] theorem State.testDeparture_stations (s : State) (j : Job) : (s.testDeparture j).stations = s.stations := by rw [s.testDeparture_frame j]
@[simp] theorem State.testDeparture_pool (s : State) (j : Job) : (s.testDeparture j).pool = s.pool := by rw [s.testDeparture_frame j]
@[simp] theorem State.testDeparture_queue (s : State) (j : Job) : (s.testDeparture j).queue = s.queue := by rw [s.testDeparture_frame j]
@[simp] theorem State.testDeparture_jobCounter (s : State) (j : Job) : (s.testDeparture j).jobCounter = s.jobCounter := by rw [s.testDeparture_frame j]
@[simp] theorem State.testDeparture_arbiter (s : State) (j : Job) : (s.testDeparture j).arbiter = s.arbiter := by rw [s.testDeparture_frame j]
@[simp] theorem State.testDeparture_shuttle (s : State) (j : Job) : (s.testDeparture j).shuttle = s.shuttle := by rw [s.testDeparture_frame j]
@[simp] theorem State.testDeparture_load (s : State) (j : Job) : (s.testDeparture j).load = s.load := by rw [s.testDeparture_frame j]
@[simp] theorem State.testDeparture_drive (s : State) (j : Job) : (s.testDeparture j).drive = s.drive := by rw [s.testDeparture_frame j]
@[simp] theorem State.testDeparture_params (s : State) (j : Job) : (s.testDeparture j).params = s.params := by rw [s.testDeparture_frame j]
@[simp] theorem State.testDeparture_enable (s : State) (j : Job) : (s.testDeparture j).enable = s.enable := by rw [s.testDeparture_frame j]
@[simp] theorem State.testDeparture_supervisor (s : State) (j : Job) : (s.testDeparture j).supervisor = s.supervisor := by rw [s.testDeparture_frame j]
@[simp] theorem State.testDeparture_dispatchDue (s : State) (j : Job) : (s.testDeparture j).dispatchDue = s.dispatchDue := by rw [s.testDeparture_frame j]
@[simp] theorem State.testDeparture_draws (s : State) (j : Job) : (s.testDeparture j).draws = s.draws := by rw [s.testDeparture_frame j]
@[simp] theorem State.testDeparture_pending (s : State) (j : Job) : (s.testDeparture j).pending = s.pending := by rw [s.testDeparture_frame j]
@[simp] theorem State.testDeparture_slot (s : State) (j : Job) (k' : SlotIx) : (s.testDeparture j).slot k' = s.slot k' := by simp [State.slot]
@[simp] theorem State.testDeparture_station (s : State) (j : Job) (j' : Station) : (s.testDeparture j).station j' = s.station j' := by simp [State.station]

theorem State.modQueued_frame (s : State) (n : Nat) (f : Job → Job) :
    s.modQueued n f = { s with
      queue := (s.modQueued n f).queue } := by
  apply State.ext_of_fields <;> (try with_reducible rfl) <;> simp only [State.modQueued] <;> simp
@[simp] theorem State.modQueued_clock (s : State) (n : Nat) (f : Job → Job) : (s.modQueued n f).clock = s.clock := by rw [s.modQueued_frame n f]
@[simp] theorem State.modQueued_slots (s : State) (n : Nat) (f : Job → Job) : (s.modQueued n f).slots = s.slots := by rw [s.modQueued_frame n f]
@[simp] theorem State.modQueued_arrival (s : State) (n : Nat) (f : Job → Job) : (s.modQueued n f).arrival = s.arrival := by rw [s.modQueued_frame n f]
@[simp] theorem State.modQueued_tagCounter (s : State) (n : Nat) (f : Job → Job) : (s.modQueued n f).tagCounter = s.tagCounter := by rw [s.modQueued_frame n f]
@[simp] theorem State.modQueued_stations (s : State) (n : Nat) (f : Job → Job) : (s.modQueued n f).stations = s.stations := by rw [s.modQueued_frame n f]
@[simp] theorem State.modQueued_pool (s : State) (n : Nat) (f : Job → Job) : (s.modQueued n f).pool = s.pool := by rw [s.modQueued_frame n f]
@[simp] theorem State.modQueued_jobCounter (s : State) (n : Nat) (f : Job → Job) : (s.modQueued n f).jobCounter = s.jobCounter := by rw [s.modQueued_frame n f]
@[simp] theorem State.modQueued_arbiter (s : State) (n : Nat) (f : Job → Job) : (s.modQueued n f).arbiter = s.arbiter := by rw [s.modQueued_frame n f]
@[simp] theorem State.modQueued_shuttle (s : State) (n : Nat) (f : Job → Job) : (s.modQueued n f).shuttle = s.shuttle := by rw [s.modQueued_frame n f]
@[simp] theorem State.modQueued_load (s : State) (n : Nat) (f : Job → Job) : (s.modQueued n f).load = s.load := by rw [s.modQueued_frame n f]
@[simp] theorem State.modQueued_drive (s : State) (n : Nat) (f : Job → Job) : (s.modQueued n f).drive = s.drive := by rw [s.modQueued_frame n f]
@[simp] theorem State.modQueued_params (s : State) (n : Nat) (f : Job → Job) : (s.modQueued n f).params = s.params := by rw [s.modQueued_frame n f]
@[simp] theorem State.modQueued_attention (s : State) (n : Nat) (f : Job → Job) : (s.modQueued n f).attention = s.attention := by rw [s.modQueued_frame n f]
@[simp] theorem State.modQueued_enable (s : State) (n : Nat) (f : Job → Job) : (s.modQueued n f).enable = s.enable := by rw [s.modQueued_frame n f]
@[simp] theorem State.modQueued_supervisor (s : State) (n : Nat) (f : Job → Job) : (s.modQueued n f).supervisor = s.supervisor := by rw [s.modQueued_frame n f]
@[simp] theorem State.modQueued_dispatchDue (s : State) (n : Nat) (f : Job → Job) : (s.modQueued n f).dispatchDue = s.dispatchDue := by rw [s.modQueued_frame n f]
@[simp] theorem State.modQueued_draws (s : State) (n : Nat) (f : Job → Job) : (s.modQueued n f).draws = s.draws := by rw [s.modQueued_frame n f]
@[simp] theorem State.modQueued_pending (s : State) (n : Nat) (f : Job → Job) : (s.modQueued n f).pending = s.pending := by rw [s.modQueued_frame n f]
@[simp] theorem State.modQueued_slot (s : State) (n : Nat) (f : Job → Job) (k' : SlotIx) : (s.modQueued n f).slot k' = s.slot k' := by simp [State.slot]
@[simp] theorem State.modQueued_station (s : State) (n : Nat) (f : Job → Job) (j' : Station) : (s.modQueued n f).station j' = s.station j' := by simp [State.station]

theorem State.unqueue_frame (s : State) (n : Nat) :
    s.unqueue n = { s with
      queue := (s.unqueue n).queue } := by
  apply State.ext_of_fields <;> (try with_reducible rfl) <;> simp only [State.unqueue] <;> simp
@[simp] theorem State.unqueue_clock (s : State) (n : Nat) : (s.unqueue n).clock = s.clock := by rw [s.unqueue_frame n]
@[simp] theorem State.unqueue_slots (s : State) (n : Nat) : (s.unqueue n).slots = s.slots := by rw [s.unqueue_frame n]
@[simp] theorem State.unqueue_arrival (s : State) (n : Nat) : (s.unqueue n).arrival = s.arrival := by rw [s.unqueue_frame n]
@[simp] theorem State.unqueue_tagCounter (s : State) (n : Nat) : (s.unqueue n).tagCounter = s.tagCounter := by rw [s.unqueue_frame n]
@[simp] theorem State.unqueue_stations (s : State) (n : Nat) : (s.unqueue n).stations = s.stations := by rw [s.unqueue_frame n]
@[simp] theorem State.unqueue_pool (s : State) (n : Nat) : (s.unqueue n).pool = s.pool := by rw [s.unqueue_frame n]
@[simp] theorem State.unqueue_jobCounter (s : State) (n : Nat) : (s.unqueue n).jobCounter = s.jobCounter := by rw [s.unqueue_frame n]
@[simp] theorem State.unqueue_arbiter (s : State) (n : Nat) : (s.unqueue n).arbiter = s.arbiter := by rw [s.unqueue_frame n]
@[simp] theorem State.unqueue_shuttle (s : State) (n : Nat) : (s.unqueue n).shuttle = s.shuttle := by rw [s.unqueue_frame n]
@[simp] theorem State.unqueue_load (s : State) (n : Nat) : (s.unqueue n).load = s.load := by rw [s.unqueue_frame n]
@[simp] theorem State.unqueue_drive (s : State) (n : Nat) : (s.unqueue n).drive = s.drive := by rw [s.unqueue_frame n]
@[simp] theorem State.unqueue_params (s : State) (n : Nat) : (s.unqueue n).params = s.params := by rw [s.unqueue_frame n]
@[simp] theorem State.unqueue_attention (s : State) (n : Nat) : (s.unqueue n).attention = s.attention := by rw [s.unqueue_frame n]
@[simp] theorem State.unqueue_enable (s : State) (n : Nat) : (s.unqueue n).enable = s.enable := by rw [s.unqueue_frame n]
@[simp] theorem State.unqueue_supervisor (s : State) (n : Nat) : (s.unqueue n).supervisor = s.supervisor := by rw [s.unqueue_frame n]
@[simp] theorem State.unqueue_dispatchDue (s : State) (n : Nat) : (s.unqueue n).dispatchDue = s.dispatchDue := by rw [s.unqueue_frame n]
@[simp] theorem State.unqueue_draws (s : State) (n : Nat) : (s.unqueue n).draws = s.draws := by rw [s.unqueue_frame n]
@[simp] theorem State.unqueue_pending (s : State) (n : Nat) : (s.unqueue n).pending = s.pending := by rw [s.unqueue_frame n]
@[simp] theorem State.unqueue_slot (s : State) (n : Nat) (k' : SlotIx) : (s.unqueue n).slot k' = s.slot k' := by simp [State.slot]
@[simp] theorem State.unqueue_station (s : State) (n : Nat) (j' : Station) : (s.unqueue n).station j' = s.station j' := by simp [State.station]

theorem State.modCurrent_frame (s : State) (f : Job → Job) :
    s.modCurrent f = { s with
      shuttle := (s.modCurrent f).shuttle } := by
  apply State.ext_of_fields <;> (try with_reducible rfl) <;> simp only [State.modCurrent] <;> (repeat' split) <;> simp
@[simp] theorem State.modCurrent_clock (s : State) (f : Job → Job) : (s.modCurrent f).clock = s.clock := by rw [s.modCurrent_frame f]
@[simp] theorem State.modCurrent_slots (s : State) (f : Job → Job) : (s.modCurrent f).slots = s.slots := by rw [s.modCurrent_frame f]
@[simp] theorem State.modCurrent_arrival (s : State) (f : Job → Job) : (s.modCurrent f).arrival = s.arrival := by rw [s.modCurrent_frame f]
@[simp] theorem State.modCurrent_tagCounter (s : State) (f : Job → Job) : (s.modCurrent f).tagCounter = s.tagCounter := by rw [s.modCurrent_frame f]
@[simp] theorem State.modCurrent_stations (s : State) (f : Job → Job) : (s.modCurrent f).stations = s.stations := by rw [s.modCurrent_frame f]
@[simp] theorem State.modCurrent_pool (s : State) (f : Job → Job) : (s.modCurrent f).pool = s.pool := by rw [s.modCurrent_frame f]
@[simp] theorem State.modCurrent_queue (s : State) (f : Job → Job) : (s.modCurrent f).queue = s.queue := by rw [s.modCurrent_frame f]
@[simp] theorem State.modCurrent_jobCounter (s : State) (f : Job → Job) : (s.modCurrent f).jobCounter = s.jobCounter := by rw [s.modCurrent_frame f]
@[simp] theorem State.modCurrent_arbiter (s : State) (f : Job → Job) : (s.modCurrent f).arbiter = s.arbiter := by rw [s.modCurrent_frame f]
@[simp] theorem State.modCurrent_load (s : State) (f : Job → Job) : (s.modCurrent f).load = s.load := by rw [s.modCurrent_frame f]
@[simp] theorem State.modCurrent_drive (s : State) (f : Job → Job) : (s.modCurrent f).drive = s.drive := by rw [s.modCurrent_frame f]
@[simp] theorem State.modCurrent_params (s : State) (f : Job → Job) : (s.modCurrent f).params = s.params := by rw [s.modCurrent_frame f]
@[simp] theorem State.modCurrent_attention (s : State) (f : Job → Job) : (s.modCurrent f).attention = s.attention := by rw [s.modCurrent_frame f]
@[simp] theorem State.modCurrent_enable (s : State) (f : Job → Job) : (s.modCurrent f).enable = s.enable := by rw [s.modCurrent_frame f]
@[simp] theorem State.modCurrent_supervisor (s : State) (f : Job → Job) : (s.modCurrent f).supervisor = s.supervisor := by rw [s.modCurrent_frame f]
@[simp] theorem State.modCurrent_dispatchDue (s : State) (f : Job → Job) : (s.modCurrent f).dispatchDue = s.dispatchDue := by rw [s.modCurrent_frame f]
@[simp] theorem State.modCurrent_draws (s : State) (f : Job → Job) : (s.modCurrent f).draws = s.draws := by rw [s.modCurrent_frame f]
@[simp] theorem State.modCurrent_pending (s : State) (f : Job → Job) : (s.modCurrent f).pending = s.pending := by rw [s.modCurrent_frame f]
@[simp] theorem State.modCurrent_slot (s : State) (f : Job → Job) (k' : SlotIx) : (s.modCurrent f).slot k' = s.slot k' := by simp [State.slot]
@[simp] theorem State.modCurrent_station (s : State) (f : Job → Job) (j' : Station) : (s.modCurrent f).station j' = s.station j' := by simp [State.station]

theorem State.reserve_frame (s : State) (k : SlotIx) (b : Bar) (n : Nat) (i : Station) :
    s.reserve k b n i = { s with
      slots := (s.reserve k b n i).slots
      queue := (s.reserve k b n i).queue
      attention := (s.reserve k b n i).attention
      dispatchDue := (s.reserve k b n i).dispatchDue } := by
  apply State.ext_of_fields <;> (try with_reducible rfl) <;> simp only [State.reserve] <;> simp
@[simp] theorem State.reserve_clock (s : State) (k : SlotIx) (b : Bar) (n : Nat) (i : Station) : (s.reserve k b n i).clock = s.clock := by rw [s.reserve_frame k b n i]
@[simp] theorem State.reserve_arrival (s : State) (k : SlotIx) (b : Bar) (n : Nat) (i : Station) : (s.reserve k b n i).arrival = s.arrival := by rw [s.reserve_frame k b n i]
@[simp] theorem State.reserve_tagCounter (s : State) (k : SlotIx) (b : Bar) (n : Nat) (i : Station) : (s.reserve k b n i).tagCounter = s.tagCounter := by rw [s.reserve_frame k b n i]
@[simp] theorem State.reserve_stations (s : State) (k : SlotIx) (b : Bar) (n : Nat) (i : Station) : (s.reserve k b n i).stations = s.stations := by rw [s.reserve_frame k b n i]
@[simp] theorem State.reserve_pool (s : State) (k : SlotIx) (b : Bar) (n : Nat) (i : Station) : (s.reserve k b n i).pool = s.pool := by rw [s.reserve_frame k b n i]
@[simp] theorem State.reserve_jobCounter (s : State) (k : SlotIx) (b : Bar) (n : Nat) (i : Station) : (s.reserve k b n i).jobCounter = s.jobCounter := by rw [s.reserve_frame k b n i]
@[simp] theorem State.reserve_arbiter (s : State) (k : SlotIx) (b : Bar) (n : Nat) (i : Station) : (s.reserve k b n i).arbiter = s.arbiter := by rw [s.reserve_frame k b n i]
@[simp] theorem State.reserve_shuttle (s : State) (k : SlotIx) (b : Bar) (n : Nat) (i : Station) : (s.reserve k b n i).shuttle = s.shuttle := by rw [s.reserve_frame k b n i]
@[simp] theorem State.reserve_load (s : State) (k : SlotIx) (b : Bar) (n : Nat) (i : Station) : (s.reserve k b n i).load = s.load := by rw [s.reserve_frame k b n i]
@[simp] theorem State.reserve_drive (s : State) (k : SlotIx) (b : Bar) (n : Nat) (i : Station) : (s.reserve k b n i).drive = s.drive := by rw [s.reserve_frame k b n i]
@[simp] theorem State.reserve_params (s : State) (k : SlotIx) (b : Bar) (n : Nat) (i : Station) : (s.reserve k b n i).params = s.params := by rw [s.reserve_frame k b n i]
@[simp] theorem State.reserve_enable (s : State) (k : SlotIx) (b : Bar) (n : Nat) (i : Station) : (s.reserve k b n i).enable = s.enable := by rw [s.reserve_frame k b n i]
@[simp] theorem State.reserve_supervisor (s : State) (k : SlotIx) (b : Bar) (n : Nat) (i : Station) : (s.reserve k b n i).supervisor = s.supervisor := by rw [s.reserve_frame k b n i]
@[simp] theorem State.reserve_draws (s : State) (k : SlotIx) (b : Bar) (n : Nat) (i : Station) : (s.reserve k b n i).draws = s.draws := by rw [s.reserve_frame k b n i]
@[simp] theorem State.reserve_pending (s : State) (k : SlotIx) (b : Bar) (n : Nat) (i : Station) : (s.reserve k b n i).pending = s.pending := by rw [s.reserve_frame k b n i]
@[simp] theorem State.reserve_station (s : State) (k : SlotIx) (b : Bar) (n : Nat) (i : Station) (j' : Station) : (s.reserve k b n i).station j' = s.station j' := by simp [State.station]

theorem State.select_frame (s : State) (i : Station) :
    s.select i = { s with
      slots := (s.select i).slots
      queue := (s.select i).queue
      attention := (s.select i).attention
      dispatchDue := (s.select i).dispatchDue } := by
  apply State.ext_of_fields <;> (try with_reducible rfl) <;> simp only [State.select] <;> (repeat' split) <;> simp
@[simp] theorem State.select_clock (s : State) (i : Station) : (s.select i).clock = s.clock := by rw [s.select_frame i]
@[simp] theorem State.select_arrival (s : State) (i : Station) : (s.select i).arrival = s.arrival := by rw [s.select_frame i]
@[simp] theorem State.select_tagCounter (s : State) (i : Station) : (s.select i).tagCounter = s.tagCounter := by rw [s.select_frame i]
@[simp] theorem State.select_stations (s : State) (i : Station) : (s.select i).stations = s.stations := by rw [s.select_frame i]
@[simp] theorem State.select_pool (s : State) (i : Station) : (s.select i).pool = s.pool := by rw [s.select_frame i]
@[simp] theorem State.select_jobCounter (s : State) (i : Station) : (s.select i).jobCounter = s.jobCounter := by rw [s.select_frame i]
@[simp] theorem State.select_arbiter (s : State) (i : Station) : (s.select i).arbiter = s.arbiter := by rw [s.select_frame i]
@[simp] theorem State.select_shuttle (s : State) (i : Station) : (s.select i).shuttle = s.shuttle := by rw [s.select_frame i]
@[simp] theorem State.select_load (s : State) (i : Station) : (s.select i).load = s.load := by rw [s.select_frame i]
@[simp] theorem State.select_drive (s : State) (i : Station) : (s.select i).drive = s.drive := by rw [s.select_frame i]
@[simp] theorem State.select_params (s : State) (i : Station) : (s.select i).params = s.params := by rw [s.select_frame i]
@[simp] theorem State.select_enable (s : State) (i : Station) : (s.select i).enable = s.enable := by rw [s.select_frame i]
@[simp] theorem State.select_supervisor (s : State) (i : Station) : (s.select i).supervisor = s.supervisor := by rw [s.select_frame i]
@[simp] theorem State.select_draws (s : State) (i : Station) : (s.select i).draws = s.draws := by rw [s.select_frame i]
@[simp] theorem State.select_pending (s : State) (i : Station) : (s.select i).pending = s.pending := by rw [s.select_frame i]
@[simp] theorem State.select_station (s : State) (i : Station) (j' : Station) : (s.select i).station j' = s.station j' := by simp [State.station]

theorem State.freeSlot_frame (s : State) (k : SlotIx) :
    s.freeSlot k = { s with
      slots := (s.freeSlot k).slots } := by
  apply State.ext_of_fields <;> (try with_reducible rfl) <;> simp only [State.freeSlot] <;> (repeat' split) <;> simp
@[simp] theorem State.freeSlot_clock (s : State) (k : SlotIx) : (s.freeSlot k).clock = s.clock := by rw [s.freeSlot_frame k]
@[simp] theorem State.freeSlot_arrival (s : State) (k : SlotIx) : (s.freeSlot k).arrival = s.arrival := by rw [s.freeSlot_frame k]
@[simp] theorem State.freeSlot_tagCounter (s : State) (k : SlotIx) : (s.freeSlot k).tagCounter = s.tagCounter := by rw [s.freeSlot_frame k]
@[simp] theorem State.freeSlot_stations (s : State) (k : SlotIx) : (s.freeSlot k).stations = s.stations := by rw [s.freeSlot_frame k]
@[simp] theorem State.freeSlot_pool (s : State) (k : SlotIx) : (s.freeSlot k).pool = s.pool := by rw [s.freeSlot_frame k]
@[simp] theorem State.freeSlot_queue (s : State) (k : SlotIx) : (s.freeSlot k).queue = s.queue := by rw [s.freeSlot_frame k]
@[simp] theorem State.freeSlot_jobCounter (s : State) (k : SlotIx) : (s.freeSlot k).jobCounter = s.jobCounter := by rw [s.freeSlot_frame k]
@[simp] theorem State.freeSlot_arbiter (s : State) (k : SlotIx) : (s.freeSlot k).arbiter = s.arbiter := by rw [s.freeSlot_frame k]
@[simp] theorem State.freeSlot_shuttle (s : State) (k : SlotIx) : (s.freeSlot k).shuttle = s.shuttle := by rw [s.freeSlot_frame k]
@[simp] theorem State.freeSlot_load (s : State) (k : SlotIx) : (s.freeSlot k).load = s.load := by rw [s.freeSlot_frame k]
@[simp] theorem State.freeSlot_drive (s : State) (k : SlotIx) : (s.freeSlot k).drive = s.drive := by rw [s.freeSlot_frame k]
@[simp] theorem State.freeSlot_params (s : State) (k : SlotIx) : (s.freeSlot k).params = s.params := by rw [s.freeSlot_frame k]
@[simp] theorem State.freeSlot_attention (s : State) (k : SlotIx) : (s.freeSlot k).attention = s.attention := by rw [s.freeSlot_frame k]
@[simp] theorem State.freeSlot_enable (s : State) (k : SlotIx) : (s.freeSlot k).enable = s.enable := by rw [s.freeSlot_frame k]
@[simp] theorem State.freeSlot_supervisor (s : State) (k : SlotIx) : (s.freeSlot k).supervisor = s.supervisor := by rw [s.freeSlot_frame k]
@[simp] theorem State.freeSlot_dispatchDue (s : State) (k : SlotIx) : (s.freeSlot k).dispatchDue = s.dispatchDue := by rw [s.freeSlot_frame k]
@[simp] theorem State.freeSlot_draws (s : State) (k : SlotIx) : (s.freeSlot k).draws = s.draws := by rw [s.freeSlot_frame k]
@[simp] theorem State.freeSlot_pending (s : State) (k : SlotIx) : (s.freeSlot k).pending = s.pending := by rw [s.freeSlot_frame k]
@[simp] theorem State.freeSlot_station (s : State) (k : SlotIx) (j' : Station) : (s.freeSlot k).station j' = s.station j' := by simp [State.station]

theorem State.offer_frame (s : State) (k : SlotIx) (e : Option Nat) :
    s.offer k e = { s with
      slots := (s.offer k e).slots
      queue := (s.offer k e).queue
      attention := (s.offer k e).attention
      dispatchDue := (s.offer k e).dispatchDue } := by
  apply State.ext_of_fields <;> (try with_reducible rfl) <;> simp only [State.offer] <;> (repeat' split) <;> simp
@[simp] theorem State.offer_clock (s : State) (k : SlotIx) (e : Option Nat) : (s.offer k e).clock = s.clock := by rw [s.offer_frame k e]
@[simp] theorem State.offer_arrival (s : State) (k : SlotIx) (e : Option Nat) : (s.offer k e).arrival = s.arrival := by rw [s.offer_frame k e]
@[simp] theorem State.offer_tagCounter (s : State) (k : SlotIx) (e : Option Nat) : (s.offer k e).tagCounter = s.tagCounter := by rw [s.offer_frame k e]
@[simp] theorem State.offer_stations (s : State) (k : SlotIx) (e : Option Nat) : (s.offer k e).stations = s.stations := by rw [s.offer_frame k e]
@[simp] theorem State.offer_pool (s : State) (k : SlotIx) (e : Option Nat) : (s.offer k e).pool = s.pool := by rw [s.offer_frame k e]
@[simp] theorem State.offer_jobCounter (s : State) (k : SlotIx) (e : Option Nat) : (s.offer k e).jobCounter = s.jobCounter := by rw [s.offer_frame k e]
@[simp] theorem State.offer_arbiter (s : State) (k : SlotIx) (e : Option Nat) : (s.offer k e).arbiter = s.arbiter := by rw [s.offer_frame k e]
@[simp] theorem State.offer_shuttle (s : State) (k : SlotIx) (e : Option Nat) : (s.offer k e).shuttle = s.shuttle := by rw [s.offer_frame k e]
@[simp] theorem State.offer_load (s : State) (k : SlotIx) (e : Option Nat) : (s.offer k e).load = s.load := by rw [s.offer_frame k e]
@[simp] theorem State.offer_drive (s : State) (k : SlotIx) (e : Option Nat) : (s.offer k e).drive = s.drive := by rw [s.offer_frame k e]
@[simp] theorem State.offer_params (s : State) (k : SlotIx) (e : Option Nat) : (s.offer k e).params = s.params := by rw [s.offer_frame k e]
@[simp] theorem State.offer_enable (s : State) (k : SlotIx) (e : Option Nat) : (s.offer k e).enable = s.enable := by rw [s.offer_frame k e]
@[simp] theorem State.offer_supervisor (s : State) (k : SlotIx) (e : Option Nat) : (s.offer k e).supervisor = s.supervisor := by rw [s.offer_frame k e]
@[simp] theorem State.offer_draws (s : State) (k : SlotIx) (e : Option Nat) : (s.offer k e).draws = s.draws := by rw [s.offer_frame k e]
@[simp] theorem State.offer_pending (s : State) (k : SlotIx) (e : Option Nat) : (s.offer k e).pending = s.pending := by rw [s.offer_frame k e]
@[simp] theorem State.offer_station (s : State) (k : SlotIx) (e : Option Nat) (j' : Station) : (s.offer k e).station j' = s.station j' := by simp [State.station]

theorem State.releaseQueued_frame (s : State) (j : Job) :
    s.releaseQueued j = { s with
      slots := (s.releaseQueued j).slots
      queue := (s.releaseQueued j).queue
      attention := (s.releaseQueued j).attention
      dispatchDue := (s.releaseQueued j).dispatchDue } := by
  apply State.ext_of_fields <;> (try with_reducible rfl) <;> simp only [State.releaseQueued] <;> (repeat' split) <;> simp
@[simp] theorem State.releaseQueued_clock (s : State) (j : Job) : (s.releaseQueued j).clock = s.clock := by rw [s.releaseQueued_frame j]
@[simp] theorem State.releaseQueued_arrival (s : State) (j : Job) : (s.releaseQueued j).arrival = s.arrival := by rw [s.releaseQueued_frame j]
@[simp] theorem State.releaseQueued_tagCounter (s : State) (j : Job) : (s.releaseQueued j).tagCounter = s.tagCounter := by rw [s.releaseQueued_frame j]
@[simp] theorem State.releaseQueued_stations (s : State) (j : Job) : (s.releaseQueued j).stations = s.stations := by rw [s.releaseQueued_frame j]
@[simp] theorem State.releaseQueued_pool (s : State) (j : Job) : (s.releaseQueued j).pool = s.pool := by rw [s.releaseQueued_frame j]
@[simp] theorem State.releaseQueued_jobCounter (s : State) (j : Job) : (s.releaseQueued j).jobCounter = s.jobCounter := by rw [s.releaseQueued_frame j]
@[simp] theorem State.releaseQueued_arbiter (s : State) (j : Job) : (s.releaseQueued j).arbiter = s.arbiter := by rw [s.releaseQueued_frame j]
@[simp] theorem State.releaseQueued_shuttle (s : State) (j : Job) : (s.releaseQueued j).shuttle = s.shuttle := by rw [s.releaseQueued_frame j]
@[simp] theorem State.releaseQueued_load (s : State) (j : Job) : (s.releaseQueued j).load = s.load := by rw [s.releaseQueued_frame j]
@[simp] theorem State.releaseQueued_drive (s : State) (j : Job) : (s.releaseQueued j).drive = s.drive := by rw [s.releaseQueued_frame j]
@[simp] theorem State.releaseQueued_params (s : State) (j : Job) : (s.releaseQueued j).params = s.params := by rw [s.releaseQueued_frame j]
@[simp] theorem State.releaseQueued_enable (s : State) (j : Job) : (s.releaseQueued j).enable = s.enable := by rw [s.releaseQueued_frame j]
@[simp] theorem State.releaseQueued_supervisor (s : State) (j : Job) : (s.releaseQueued j).supervisor = s.supervisor := by rw [s.releaseQueued_frame j]
@[simp] theorem State.releaseQueued_draws (s : State) (j : Job) : (s.releaseQueued j).draws = s.draws := by rw [s.releaseQueued_frame j]
@[simp] theorem State.releaseQueued_pending (s : State) (j : Job) : (s.releaseQueued j).pending = s.pending := by rw [s.releaseQueued_frame j]
@[simp] theorem State.releaseQueued_station (s : State) (j : Job) (j' : Station) : (s.releaseQueued j).station j' = s.station j' := by simp [State.station]

theorem State.removeQueued_frame (s : State) (j : Job) :
    s.removeQueued j = { s with
      slots := (s.removeQueued j).slots
      queue := (s.removeQueued j).queue
      attention := (s.removeQueued j).attention
      dispatchDue := (s.removeQueued j).dispatchDue } := by
  apply State.ext_of_fields <;> (try with_reducible rfl) <;> simp only [State.removeQueued] <;> (repeat' split) <;> simp
@[simp] theorem State.removeQueued_clock (s : State) (j : Job) : (s.removeQueued j).clock = s.clock := by rw [s.removeQueued_frame j]
@[simp] theorem State.removeQueued_arrival (s : State) (j : Job) : (s.removeQueued j).arrival = s.arrival := by rw [s.removeQueued_frame j]
@[simp] theorem State.removeQueued_tagCounter (s : State) (j : Job) : (s.removeQueued j).tagCounter = s.tagCounter := by rw [s.removeQueued_frame j]
@[simp] theorem State.removeQueued_stations (s : State) (j : Job) : (s.removeQueued j).stations = s.stations := by rw [s.removeQueued_frame j]
@[simp] theorem State.removeQueued_pool (s : State) (j : Job) : (s.removeQueued j).pool = s.pool := by rw [s.removeQueued_frame j]
@[simp] theorem State.removeQueued_jobCounter (s : State) (j : Job) : (s.removeQueued j).jobCounter = s.jobCounter := by rw [s.removeQueued_frame j]
@[simp] theorem State.removeQueued_arbiter (s : State) (j : Job) : (s.removeQueued j).arbiter = s.arbiter := by rw [s.removeQueued_frame j]
@[simp] theorem State.removeQueued_shuttle (s : State) (j : Job) : (s.removeQueued j).shuttle = s.shuttle := by rw [s.removeQueued_frame j]
@[simp] theorem State.removeQueued_load (s : State) (j : Job) : (s.removeQueued j).load = s.load := by rw [s.removeQueued_frame j]
@[simp] theorem State.removeQueued_drive (s : State) (j : Job) : (s.removeQueued j).drive = s.drive := by rw [s.removeQueued_frame j]
@[simp] theorem State.removeQueued_params (s : State) (j : Job) : (s.removeQueued j).params = s.params := by rw [s.removeQueued_frame j]
@[simp] theorem State.removeQueued_enable (s : State) (j : Job) : (s.removeQueued j).enable = s.enable := by rw [s.removeQueued_frame j]
@[simp] theorem State.removeQueued_supervisor (s : State) (j : Job) : (s.removeQueued j).supervisor = s.supervisor := by rw [s.removeQueued_frame j]
@[simp] theorem State.removeQueued_draws (s : State) (j : Job) : (s.removeQueued j).draws = s.draws := by rw [s.removeQueued_frame j]
@[simp] theorem State.removeQueued_pending (s : State) (j : Job) : (s.removeQueued j).pending = s.pending := by rw [s.removeQueued_frame j]
@[simp] theorem State.removeQueued_station (s : State) (j : Job) (j' : Station) : (s.removeQueued j).station j' = s.station j' := by simp [State.station]

theorem State.post_frame (s : State) (k : JobKind) (c : Nat) (i : Station) :
    s.post k c i = { s with
      slots := (s.post k c i).slots
      queue := (s.post k c i).queue
      jobCounter := (s.post k c i).jobCounter
      attention := (s.post k c i).attention
      dispatchDue := (s.post k c i).dispatchDue } := by
  apply State.ext_of_fields <;> (try with_reducible rfl) <;> simp only [State.post, State.newJob] <;> (repeat' split) <;> simp
@[simp] theorem State.post_clock (s : State) (k : JobKind) (c : Nat) (i : Station) : (s.post k c i).clock = s.clock := by rw [s.post_frame k c i]
@[simp] theorem State.post_arrival (s : State) (k : JobKind) (c : Nat) (i : Station) : (s.post k c i).arrival = s.arrival := by rw [s.post_frame k c i]
@[simp] theorem State.post_tagCounter (s : State) (k : JobKind) (c : Nat) (i : Station) : (s.post k c i).tagCounter = s.tagCounter := by rw [s.post_frame k c i]
@[simp] theorem State.post_stations (s : State) (k : JobKind) (c : Nat) (i : Station) : (s.post k c i).stations = s.stations := by rw [s.post_frame k c i]
@[simp] theorem State.post_pool (s : State) (k : JobKind) (c : Nat) (i : Station) : (s.post k c i).pool = s.pool := by rw [s.post_frame k c i]
@[simp] theorem State.post_arbiter (s : State) (k : JobKind) (c : Nat) (i : Station) : (s.post k c i).arbiter = s.arbiter := by rw [s.post_frame k c i]
@[simp] theorem State.post_shuttle (s : State) (k : JobKind) (c : Nat) (i : Station) : (s.post k c i).shuttle = s.shuttle := by rw [s.post_frame k c i]
@[simp] theorem State.post_load (s : State) (k : JobKind) (c : Nat) (i : Station) : (s.post k c i).load = s.load := by rw [s.post_frame k c i]
@[simp] theorem State.post_drive (s : State) (k : JobKind) (c : Nat) (i : Station) : (s.post k c i).drive = s.drive := by rw [s.post_frame k c i]
@[simp] theorem State.post_params (s : State) (k : JobKind) (c : Nat) (i : Station) : (s.post k c i).params = s.params := by rw [s.post_frame k c i]
@[simp] theorem State.post_enable (s : State) (k : JobKind) (c : Nat) (i : Station) : (s.post k c i).enable = s.enable := by rw [s.post_frame k c i]
@[simp] theorem State.post_supervisor (s : State) (k : JobKind) (c : Nat) (i : Station) : (s.post k c i).supervisor = s.supervisor := by rw [s.post_frame k c i]
@[simp] theorem State.post_draws (s : State) (k : JobKind) (c : Nat) (i : Station) : (s.post k c i).draws = s.draws := by rw [s.post_frame k c i]
@[simp] theorem State.post_pending (s : State) (k : JobKind) (c : Nat) (i : Station) : (s.post k c i).pending = s.pending := by rw [s.post_frame k c i]
@[simp] theorem State.post_station (s : State) (k : JobKind) (c : Nat) (i : Station) (j' : Station) : (s.post k c i).station j' = s.station j' := by simp [State.station]

theorem State.raiseClass_frame (s : State) (b : Bool) (i : Station) (c : Nat) :
    s.raiseClass b i c = { s with
      queue := (s.raiseClass b i c).queue
      shuttle := (s.raiseClass b i c).shuttle
      dispatchDue := (s.raiseClass b i c).dispatchDue } := by
  apply State.ext_of_fields <;> (try with_reducible rfl) <;> simp only [State.raiseClass] <;> (repeat' split) <;> simp
@[simp] theorem State.raiseClass_clock (s : State) (b : Bool) (i : Station) (c : Nat) : (s.raiseClass b i c).clock = s.clock := by rw [s.raiseClass_frame b i c]
@[simp] theorem State.raiseClass_slots (s : State) (b : Bool) (i : Station) (c : Nat) : (s.raiseClass b i c).slots = s.slots := by rw [s.raiseClass_frame b i c]
@[simp] theorem State.raiseClass_arrival (s : State) (b : Bool) (i : Station) (c : Nat) : (s.raiseClass b i c).arrival = s.arrival := by rw [s.raiseClass_frame b i c]
@[simp] theorem State.raiseClass_tagCounter (s : State) (b : Bool) (i : Station) (c : Nat) : (s.raiseClass b i c).tagCounter = s.tagCounter := by rw [s.raiseClass_frame b i c]
@[simp] theorem State.raiseClass_stations (s : State) (b : Bool) (i : Station) (c : Nat) : (s.raiseClass b i c).stations = s.stations := by rw [s.raiseClass_frame b i c]
@[simp] theorem State.raiseClass_pool (s : State) (b : Bool) (i : Station) (c : Nat) : (s.raiseClass b i c).pool = s.pool := by rw [s.raiseClass_frame b i c]
@[simp] theorem State.raiseClass_jobCounter (s : State) (b : Bool) (i : Station) (c : Nat) : (s.raiseClass b i c).jobCounter = s.jobCounter := by rw [s.raiseClass_frame b i c]
@[simp] theorem State.raiseClass_arbiter (s : State) (b : Bool) (i : Station) (c : Nat) : (s.raiseClass b i c).arbiter = s.arbiter := by rw [s.raiseClass_frame b i c]
@[simp] theorem State.raiseClass_load (s : State) (b : Bool) (i : Station) (c : Nat) : (s.raiseClass b i c).load = s.load := by rw [s.raiseClass_frame b i c]
@[simp] theorem State.raiseClass_drive (s : State) (b : Bool) (i : Station) (c : Nat) : (s.raiseClass b i c).drive = s.drive := by rw [s.raiseClass_frame b i c]
@[simp] theorem State.raiseClass_params (s : State) (b : Bool) (i : Station) (c : Nat) : (s.raiseClass b i c).params = s.params := by rw [s.raiseClass_frame b i c]
@[simp] theorem State.raiseClass_attention (s : State) (b : Bool) (i : Station) (c : Nat) : (s.raiseClass b i c).attention = s.attention := by rw [s.raiseClass_frame b i c]
@[simp] theorem State.raiseClass_enable (s : State) (b : Bool) (i : Station) (c : Nat) : (s.raiseClass b i c).enable = s.enable := by rw [s.raiseClass_frame b i c]
@[simp] theorem State.raiseClass_supervisor (s : State) (b : Bool) (i : Station) (c : Nat) : (s.raiseClass b i c).supervisor = s.supervisor := by rw [s.raiseClass_frame b i c]
@[simp] theorem State.raiseClass_draws (s : State) (b : Bool) (i : Station) (c : Nat) : (s.raiseClass b i c).draws = s.draws := by rw [s.raiseClass_frame b i c]
@[simp] theorem State.raiseClass_pending (s : State) (b : Bool) (i : Station) (c : Nat) : (s.raiseClass b i c).pending = s.pending := by rw [s.raiseClass_frame b i c]
@[simp] theorem State.raiseClass_slot (s : State) (b : Bool) (i : Station) (c : Nat) (k' : SlotIx) : (s.raiseClass b i c).slot k' = s.slot k' := by simp [State.slot]
@[simp] theorem State.raiseClass_station (s : State) (b : Bool) (i : Station) (c : Nat) (j' : Station) : (s.raiseClass b i c).station j' = s.station j' := by simp [State.station]

theorem State.issueMove_frame (s : State) (w : Work) (t : Target) (a : Action) :
    s.issueMove w t a = { s with
      shuttle := (s.issueMove w t a).shuttle
      drive := (s.issueMove w t a).drive } := by
  apply State.ext_of_fields <;> (try with_reducible rfl) <;> simp only [State.issueMove] <;> simp
@[simp] theorem State.issueMove_clock (s : State) (w : Work) (t : Target) (a : Action) : (s.issueMove w t a).clock = s.clock := by rw [s.issueMove_frame w t a]
@[simp] theorem State.issueMove_slots (s : State) (w : Work) (t : Target) (a : Action) : (s.issueMove w t a).slots = s.slots := by rw [s.issueMove_frame w t a]
@[simp] theorem State.issueMove_arrival (s : State) (w : Work) (t : Target) (a : Action) : (s.issueMove w t a).arrival = s.arrival := by rw [s.issueMove_frame w t a]
@[simp] theorem State.issueMove_tagCounter (s : State) (w : Work) (t : Target) (a : Action) : (s.issueMove w t a).tagCounter = s.tagCounter := by rw [s.issueMove_frame w t a]
@[simp] theorem State.issueMove_stations (s : State) (w : Work) (t : Target) (a : Action) : (s.issueMove w t a).stations = s.stations := by rw [s.issueMove_frame w t a]
@[simp] theorem State.issueMove_pool (s : State) (w : Work) (t : Target) (a : Action) : (s.issueMove w t a).pool = s.pool := by rw [s.issueMove_frame w t a]
@[simp] theorem State.issueMove_queue (s : State) (w : Work) (t : Target) (a : Action) : (s.issueMove w t a).queue = s.queue := by rw [s.issueMove_frame w t a]
@[simp] theorem State.issueMove_jobCounter (s : State) (w : Work) (t : Target) (a : Action) : (s.issueMove w t a).jobCounter = s.jobCounter := by rw [s.issueMove_frame w t a]
@[simp] theorem State.issueMove_arbiter (s : State) (w : Work) (t : Target) (a : Action) : (s.issueMove w t a).arbiter = s.arbiter := by rw [s.issueMove_frame w t a]
@[simp] theorem State.issueMove_load (s : State) (w : Work) (t : Target) (a : Action) : (s.issueMove w t a).load = s.load := by rw [s.issueMove_frame w t a]
@[simp] theorem State.issueMove_params (s : State) (w : Work) (t : Target) (a : Action) : (s.issueMove w t a).params = s.params := by rw [s.issueMove_frame w t a]
@[simp] theorem State.issueMove_attention (s : State) (w : Work) (t : Target) (a : Action) : (s.issueMove w t a).attention = s.attention := by rw [s.issueMove_frame w t a]
@[simp] theorem State.issueMove_enable (s : State) (w : Work) (t : Target) (a : Action) : (s.issueMove w t a).enable = s.enable := by rw [s.issueMove_frame w t a]
@[simp] theorem State.issueMove_supervisor (s : State) (w : Work) (t : Target) (a : Action) : (s.issueMove w t a).supervisor = s.supervisor := by rw [s.issueMove_frame w t a]
@[simp] theorem State.issueMove_dispatchDue (s : State) (w : Work) (t : Target) (a : Action) : (s.issueMove w t a).dispatchDue = s.dispatchDue := by rw [s.issueMove_frame w t a]
@[simp] theorem State.issueMove_draws (s : State) (w : Work) (t : Target) (a : Action) : (s.issueMove w t a).draws = s.draws := by rw [s.issueMove_frame w t a]
@[simp] theorem State.issueMove_pending (s : State) (w : Work) (t : Target) (a : Action) : (s.issueMove w t a).pending = s.pending := by rw [s.issueMove_frame w t a]
@[simp] theorem State.issueMove_slot (s : State) (w : Work) (t : Target) (a : Action) (k' : SlotIx) : (s.issueMove w t a).slot k' = s.slot k' := by simp [State.slot]
@[simp] theorem State.issueMove_station (s : State) (w : Work) (t : Target) (a : Action) (j' : Station) : (s.issueMove w t a).station j' = s.station j' := by simp [State.station]

theorem State.goPhase_frame (s : State) (c : Current) (p : Phase) (t : Target) (a : Action) :
    s.goPhase c p t a = { s with
      shuttle := (s.goPhase c p t a).shuttle
      drive := (s.goPhase c p t a).drive } := by
  apply State.ext_of_fields <;> (try with_reducible rfl) <;> simp only [State.goPhase] <;> simp
@[simp] theorem State.goPhase_clock (s : State) (c : Current) (p : Phase) (t : Target) (a : Action) : (s.goPhase c p t a).clock = s.clock := by rw [s.goPhase_frame c p t a]
@[simp] theorem State.goPhase_slots (s : State) (c : Current) (p : Phase) (t : Target) (a : Action) : (s.goPhase c p t a).slots = s.slots := by rw [s.goPhase_frame c p t a]
@[simp] theorem State.goPhase_arrival (s : State) (c : Current) (p : Phase) (t : Target) (a : Action) : (s.goPhase c p t a).arrival = s.arrival := by rw [s.goPhase_frame c p t a]
@[simp] theorem State.goPhase_tagCounter (s : State) (c : Current) (p : Phase) (t : Target) (a : Action) : (s.goPhase c p t a).tagCounter = s.tagCounter := by rw [s.goPhase_frame c p t a]
@[simp] theorem State.goPhase_stations (s : State) (c : Current) (p : Phase) (t : Target) (a : Action) : (s.goPhase c p t a).stations = s.stations := by rw [s.goPhase_frame c p t a]
@[simp] theorem State.goPhase_pool (s : State) (c : Current) (p : Phase) (t : Target) (a : Action) : (s.goPhase c p t a).pool = s.pool := by rw [s.goPhase_frame c p t a]
@[simp] theorem State.goPhase_queue (s : State) (c : Current) (p : Phase) (t : Target) (a : Action) : (s.goPhase c p t a).queue = s.queue := by rw [s.goPhase_frame c p t a]
@[simp] theorem State.goPhase_jobCounter (s : State) (c : Current) (p : Phase) (t : Target) (a : Action) : (s.goPhase c p t a).jobCounter = s.jobCounter := by rw [s.goPhase_frame c p t a]
@[simp] theorem State.goPhase_arbiter (s : State) (c : Current) (p : Phase) (t : Target) (a : Action) : (s.goPhase c p t a).arbiter = s.arbiter := by rw [s.goPhase_frame c p t a]
@[simp] theorem State.goPhase_load (s : State) (c : Current) (p : Phase) (t : Target) (a : Action) : (s.goPhase c p t a).load = s.load := by rw [s.goPhase_frame c p t a]
@[simp] theorem State.goPhase_params (s : State) (c : Current) (p : Phase) (t : Target) (a : Action) : (s.goPhase c p t a).params = s.params := by rw [s.goPhase_frame c p t a]
@[simp] theorem State.goPhase_attention (s : State) (c : Current) (p : Phase) (t : Target) (a : Action) : (s.goPhase c p t a).attention = s.attention := by rw [s.goPhase_frame c p t a]
@[simp] theorem State.goPhase_enable (s : State) (c : Current) (p : Phase) (t : Target) (a : Action) : (s.goPhase c p t a).enable = s.enable := by rw [s.goPhase_frame c p t a]
@[simp] theorem State.goPhase_supervisor (s : State) (c : Current) (p : Phase) (t : Target) (a : Action) : (s.goPhase c p t a).supervisor = s.supervisor := by rw [s.goPhase_frame c p t a]
@[simp] theorem State.goPhase_dispatchDue (s : State) (c : Current) (p : Phase) (t : Target) (a : Action) : (s.goPhase c p t a).dispatchDue = s.dispatchDue := by rw [s.goPhase_frame c p t a]
@[simp] theorem State.goPhase_draws (s : State) (c : Current) (p : Phase) (t : Target) (a : Action) : (s.goPhase c p t a).draws = s.draws := by rw [s.goPhase_frame c p t a]
@[simp] theorem State.goPhase_pending (s : State) (c : Current) (p : Phase) (t : Target) (a : Action) : (s.goPhase c p t a).pending = s.pending := by rw [s.goPhase_frame c p t a]
@[simp] theorem State.goPhase_slot (s : State) (c : Current) (p : Phase) (t : Target) (a : Action) (k' : SlotIx) : (s.goPhase c p t a).slot k' = s.slot k' := by simp [State.slot]
@[simp] theorem State.goPhase_station (s : State) (c : Current) (p : Phase) (t : Target) (a : Action) (j' : Station) : (s.goPhase c p t a).station j' = s.station j' := by simp [State.station]

theorem State.startJob_frame (s : State) (j : Job) :
    s.startJob j = { s with
      shuttle := (s.startJob j).shuttle
      drive := (s.startJob j).drive } := by
  apply State.ext_of_fields <;> (try with_reducible rfl) <;> simp only [State.startJob] <;> (repeat' split) <;> simp
@[simp] theorem State.startJob_clock (s : State) (j : Job) : (s.startJob j).clock = s.clock := by rw [s.startJob_frame j]
@[simp] theorem State.startJob_slots (s : State) (j : Job) : (s.startJob j).slots = s.slots := by rw [s.startJob_frame j]
@[simp] theorem State.startJob_arrival (s : State) (j : Job) : (s.startJob j).arrival = s.arrival := by rw [s.startJob_frame j]
@[simp] theorem State.startJob_tagCounter (s : State) (j : Job) : (s.startJob j).tagCounter = s.tagCounter := by rw [s.startJob_frame j]
@[simp] theorem State.startJob_stations (s : State) (j : Job) : (s.startJob j).stations = s.stations := by rw [s.startJob_frame j]
@[simp] theorem State.startJob_pool (s : State) (j : Job) : (s.startJob j).pool = s.pool := by rw [s.startJob_frame j]
@[simp] theorem State.startJob_queue (s : State) (j : Job) : (s.startJob j).queue = s.queue := by rw [s.startJob_frame j]
@[simp] theorem State.startJob_jobCounter (s : State) (j : Job) : (s.startJob j).jobCounter = s.jobCounter := by rw [s.startJob_frame j]
@[simp] theorem State.startJob_arbiter (s : State) (j : Job) : (s.startJob j).arbiter = s.arbiter := by rw [s.startJob_frame j]
@[simp] theorem State.startJob_load (s : State) (j : Job) : (s.startJob j).load = s.load := by rw [s.startJob_frame j]
@[simp] theorem State.startJob_params (s : State) (j : Job) : (s.startJob j).params = s.params := by rw [s.startJob_frame j]
@[simp] theorem State.startJob_attention (s : State) (j : Job) : (s.startJob j).attention = s.attention := by rw [s.startJob_frame j]
@[simp] theorem State.startJob_enable (s : State) (j : Job) : (s.startJob j).enable = s.enable := by rw [s.startJob_frame j]
@[simp] theorem State.startJob_supervisor (s : State) (j : Job) : (s.startJob j).supervisor = s.supervisor := by rw [s.startJob_frame j]
@[simp] theorem State.startJob_dispatchDue (s : State) (j : Job) : (s.startJob j).dispatchDue = s.dispatchDue := by rw [s.startJob_frame j]
@[simp] theorem State.startJob_draws (s : State) (j : Job) : (s.startJob j).draws = s.draws := by rw [s.startJob_frame j]
@[simp] theorem State.startJob_pending (s : State) (j : Job) : (s.startJob j).pending = s.pending := by rw [s.startJob_frame j]
@[simp] theorem State.startJob_slot (s : State) (j : Job) (k' : SlotIx) : (s.startJob j).slot k' = s.slot k' := by simp [State.slot]
@[simp] theorem State.startJob_station (s : State) (j : Job) (j' : Station) : (s.startJob j).station j' = s.station j' := by simp [State.station]

theorem State.dispatch_frame (s : State) (j : Job) :
    s.dispatch j = { s with
      stations := (s.dispatch j).stations
      pool := (s.dispatch j).pool
      queue := (s.dispatch j).queue
      arbiter := (s.dispatch j).arbiter
      shuttle := (s.dispatch j).shuttle
      drive := (s.dispatch j).drive
      attention := (s.dispatch j).attention } := by
  apply State.ext_of_fields <;> (try with_reducible rfl) <;> simp only [State.dispatch] <;> simp
@[simp] theorem State.dispatch_clock (s : State) (j : Job) : (s.dispatch j).clock = s.clock := by rw [s.dispatch_frame j]
@[simp] theorem State.dispatch_slots (s : State) (j : Job) : (s.dispatch j).slots = s.slots := by rw [s.dispatch_frame j]
@[simp] theorem State.dispatch_arrival (s : State) (j : Job) : (s.dispatch j).arrival = s.arrival := by rw [s.dispatch_frame j]
@[simp] theorem State.dispatch_tagCounter (s : State) (j : Job) : (s.dispatch j).tagCounter = s.tagCounter := by rw [s.dispatch_frame j]
@[simp] theorem State.dispatch_jobCounter (s : State) (j : Job) : (s.dispatch j).jobCounter = s.jobCounter := by rw [s.dispatch_frame j]
@[simp] theorem State.dispatch_load (s : State) (j : Job) : (s.dispatch j).load = s.load := by rw [s.dispatch_frame j]
@[simp] theorem State.dispatch_params (s : State) (j : Job) : (s.dispatch j).params = s.params := by rw [s.dispatch_frame j]
@[simp] theorem State.dispatch_enable (s : State) (j : Job) : (s.dispatch j).enable = s.enable := by rw [s.dispatch_frame j]
@[simp] theorem State.dispatch_supervisor (s : State) (j : Job) : (s.dispatch j).supervisor = s.supervisor := by rw [s.dispatch_frame j]
@[simp] theorem State.dispatch_dispatchDue (s : State) (j : Job) : (s.dispatch j).dispatchDue = s.dispatchDue := by rw [s.dispatch_frame j]
@[simp] theorem State.dispatch_draws (s : State) (j : Job) : (s.dispatch j).draws = s.draws := by rw [s.dispatch_frame j]
@[simp] theorem State.dispatch_pending (s : State) (j : Job) : (s.dispatch j).pending = s.pending := by rw [s.dispatch_frame j]
@[simp] theorem State.dispatch_slot (s : State) (j : Job) (k' : SlotIx) : (s.dispatch j).slot k' = s.slot k' := by simp [State.slot]

theorem State.evaluate_frame (s : State) :
    s.evaluate = { s with
      stations := s.evaluate.stations
      pool := s.evaluate.pool
      queue := s.evaluate.queue
      arbiter := s.evaluate.arbiter
      shuttle := s.evaluate.shuttle
      drive := s.evaluate.drive
      attention := s.evaluate.attention } := by
  apply State.ext_of_fields <;> (try with_reducible rfl) <;> simp only [State.evaluate] <;> (repeat' split) <;> simp
@[simp] theorem State.evaluate_clock (s : State) : s.evaluate.clock = s.clock := by rw [s.evaluate_frame]
@[simp] theorem State.evaluate_slots (s : State) : s.evaluate.slots = s.slots := by rw [s.evaluate_frame]
@[simp] theorem State.evaluate_arrival (s : State) : s.evaluate.arrival = s.arrival := by rw [s.evaluate_frame]
@[simp] theorem State.evaluate_tagCounter (s : State) : s.evaluate.tagCounter = s.tagCounter := by rw [s.evaluate_frame]
@[simp] theorem State.evaluate_jobCounter (s : State) : s.evaluate.jobCounter = s.jobCounter := by rw [s.evaluate_frame]
@[simp] theorem State.evaluate_load (s : State) : s.evaluate.load = s.load := by rw [s.evaluate_frame]
@[simp] theorem State.evaluate_params (s : State) : s.evaluate.params = s.params := by rw [s.evaluate_frame]
@[simp] theorem State.evaluate_enable (s : State) : s.evaluate.enable = s.enable := by rw [s.evaluate_frame]
@[simp] theorem State.evaluate_supervisor (s : State) : s.evaluate.supervisor = s.supervisor := by rw [s.evaluate_frame]
@[simp] theorem State.evaluate_dispatchDue (s : State) : s.evaluate.dispatchDue = s.dispatchDue := by rw [s.evaluate_frame]
@[simp] theorem State.evaluate_draws (s : State) : s.evaluate.draws = s.draws := by rw [s.evaluate_frame]
@[simp] theorem State.evaluate_pending (s : State) : s.evaluate.pending = s.pending := by rw [s.evaluate_frame]
@[simp] theorem State.evaluate_slot (s : State) (k' : SlotIx) : s.evaluate.slot k' = s.slot k' := by simp [State.slot]

theorem State.settle_frame (s : State) :
    s.settle = { s with
      stations := s.settle.stations
      pool := s.settle.pool
      queue := s.settle.queue
      arbiter := s.settle.arbiter
      shuttle := s.settle.shuttle
      drive := s.settle.drive
      attention := s.settle.attention
      dispatchDue := s.settle.dispatchDue } := by
  apply State.ext_of_fields <;> (try with_reducible rfl) <;> simp only [State.settle] <;> (repeat' split) <;> simp
@[simp] theorem State.settle_clock (s : State) : s.settle.clock = s.clock := by rw [s.settle_frame]
@[simp] theorem State.settle_slots (s : State) : s.settle.slots = s.slots := by rw [s.settle_frame]
@[simp] theorem State.settle_arrival (s : State) : s.settle.arrival = s.arrival := by rw [s.settle_frame]
@[simp] theorem State.settle_tagCounter (s : State) : s.settle.tagCounter = s.tagCounter := by rw [s.settle_frame]
@[simp] theorem State.settle_jobCounter (s : State) : s.settle.jobCounter = s.jobCounter := by rw [s.settle_frame]
@[simp] theorem State.settle_load (s : State) : s.settle.load = s.load := by rw [s.settle_frame]
@[simp] theorem State.settle_params (s : State) : s.settle.params = s.params := by rw [s.settle_frame]
@[simp] theorem State.settle_enable (s : State) : s.settle.enable = s.enable := by rw [s.settle_frame]
@[simp] theorem State.settle_supervisor (s : State) : s.settle.supervisor = s.supervisor := by rw [s.settle_frame]
@[simp] theorem State.settle_draws (s : State) : s.settle.draws = s.draws := by rw [s.settle_frame]
@[simp] theorem State.settle_pending (s : State) : s.settle.pending = s.pending := by rw [s.settle_frame]
@[simp] theorem State.settle_slot (s : State) (k' : SlotIx) : s.settle.slot k' = s.slot k' := by simp [State.slot]

theorem State.releasePool_frame (s : State) (c : Current) :
    s.releasePool c = { s with
      pool := (s.releasePool c).pool
      attention := (s.releasePool c).attention
      dispatchDue := (s.releasePool c).dispatchDue } := by
  apply State.ext_of_fields <;> (try with_reducible rfl) <;> simp only [State.releasePool] <;> (repeat' split) <;> simp
@[simp] theorem State.releasePool_clock (s : State) (c : Current) : (s.releasePool c).clock = s.clock := by rw [s.releasePool_frame c]
@[simp] theorem State.releasePool_slots (s : State) (c : Current) : (s.releasePool c).slots = s.slots := by rw [s.releasePool_frame c]
@[simp] theorem State.releasePool_arrival (s : State) (c : Current) : (s.releasePool c).arrival = s.arrival := by rw [s.releasePool_frame c]
@[simp] theorem State.releasePool_tagCounter (s : State) (c : Current) : (s.releasePool c).tagCounter = s.tagCounter := by rw [s.releasePool_frame c]
@[simp] theorem State.releasePool_stations (s : State) (c : Current) : (s.releasePool c).stations = s.stations := by rw [s.releasePool_frame c]
@[simp] theorem State.releasePool_queue (s : State) (c : Current) : (s.releasePool c).queue = s.queue := by rw [s.releasePool_frame c]
@[simp] theorem State.releasePool_jobCounter (s : State) (c : Current) : (s.releasePool c).jobCounter = s.jobCounter := by rw [s.releasePool_frame c]
@[simp] theorem State.releasePool_arbiter (s : State) (c : Current) : (s.releasePool c).arbiter = s.arbiter := by rw [s.releasePool_frame c]
@[simp] theorem State.releasePool_shuttle (s : State) (c : Current) : (s.releasePool c).shuttle = s.shuttle := by rw [s.releasePool_frame c]
@[simp] theorem State.releasePool_load (s : State) (c : Current) : (s.releasePool c).load = s.load := by rw [s.releasePool_frame c]
@[simp] theorem State.releasePool_drive (s : State) (c : Current) : (s.releasePool c).drive = s.drive := by rw [s.releasePool_frame c]
@[simp] theorem State.releasePool_params (s : State) (c : Current) : (s.releasePool c).params = s.params := by rw [s.releasePool_frame c]
@[simp] theorem State.releasePool_enable (s : State) (c : Current) : (s.releasePool c).enable = s.enable := by rw [s.releasePool_frame c]
@[simp] theorem State.releasePool_supervisor (s : State) (c : Current) : (s.releasePool c).supervisor = s.supervisor := by rw [s.releasePool_frame c]
@[simp] theorem State.releasePool_draws (s : State) (c : Current) : (s.releasePool c).draws = s.draws := by rw [s.releasePool_frame c]
@[simp] theorem State.releasePool_pending (s : State) (c : Current) : (s.releasePool c).pending = s.pending := by rw [s.releasePool_frame c]
@[simp] theorem State.releasePool_slot (s : State) (c : Current) (k' : SlotIx) : (s.releasePool c).slot k' = s.slot k' := by simp [State.slot]
@[simp] theorem State.releasePool_station (s : State) (c : Current) (j' : Station) : (s.releasePool c).station j' = s.station j' := by simp [State.station]

theorem State.enterRest_frame (s : State) :
    s.enterRest = { s with
      shuttle := s.enterRest.shuttle
      drive := s.enterRest.drive
      dispatchDue := s.enterRest.dispatchDue } := by
  apply State.ext_of_fields <;> (try with_reducible rfl) <;> simp only [State.enterRest] <;> (repeat' split) <;> simp
@[simp] theorem State.enterRest_clock (s : State) : s.enterRest.clock = s.clock := by rw [s.enterRest_frame]
@[simp] theorem State.enterRest_slots (s : State) : s.enterRest.slots = s.slots := by rw [s.enterRest_frame]
@[simp] theorem State.enterRest_arrival (s : State) : s.enterRest.arrival = s.arrival := by rw [s.enterRest_frame]
@[simp] theorem State.enterRest_tagCounter (s : State) : s.enterRest.tagCounter = s.tagCounter := by rw [s.enterRest_frame]
@[simp] theorem State.enterRest_stations (s : State) : s.enterRest.stations = s.stations := by rw [s.enterRest_frame]
@[simp] theorem State.enterRest_pool (s : State) : s.enterRest.pool = s.pool := by rw [s.enterRest_frame]
@[simp] theorem State.enterRest_queue (s : State) : s.enterRest.queue = s.queue := by rw [s.enterRest_frame]
@[simp] theorem State.enterRest_jobCounter (s : State) : s.enterRest.jobCounter = s.jobCounter := by rw [s.enterRest_frame]
@[simp] theorem State.enterRest_arbiter (s : State) : s.enterRest.arbiter = s.arbiter := by rw [s.enterRest_frame]
@[simp] theorem State.enterRest_load (s : State) : s.enterRest.load = s.load := by rw [s.enterRest_frame]
@[simp] theorem State.enterRest_params (s : State) : s.enterRest.params = s.params := by rw [s.enterRest_frame]
@[simp] theorem State.enterRest_attention (s : State) : s.enterRest.attention = s.attention := by rw [s.enterRest_frame]
@[simp] theorem State.enterRest_enable (s : State) : s.enterRest.enable = s.enable := by rw [s.enterRest_frame]
@[simp] theorem State.enterRest_supervisor (s : State) : s.enterRest.supervisor = s.supervisor := by rw [s.enterRest_frame]
@[simp] theorem State.enterRest_draws (s : State) : s.enterRest.draws = s.draws := by rw [s.enterRest_frame]
@[simp] theorem State.enterRest_pending (s : State) : s.enterRest.pending = s.pending := by rw [s.enterRest_frame]
@[simp] theorem State.enterRest_slot (s : State) (k' : SlotIx) : s.enterRest.slot k' = s.slot k' := by simp [State.slot]
@[simp] theorem State.enterRest_station (s : State) (j' : Station) : s.enterRest.station j' = s.station j' := by simp [State.station]

theorem State.reQueue_frame (s : State) (c : Current) :
    s.reQueue c = { s with
      pool := (s.reQueue c).pool
      queue := (s.reQueue c).queue
      shuttle := (s.reQueue c).shuttle
      drive := (s.reQueue c).drive
      attention := (s.reQueue c).attention
      dispatchDue := (s.reQueue c).dispatchDue } := by
  apply State.ext_of_fields <;> (try with_reducible rfl) <;> simp only [State.reQueue] <;> simp
@[simp] theorem State.reQueue_clock (s : State) (c : Current) : (s.reQueue c).clock = s.clock := by rw [s.reQueue_frame c]
@[simp] theorem State.reQueue_slots (s : State) (c : Current) : (s.reQueue c).slots = s.slots := by rw [s.reQueue_frame c]
@[simp] theorem State.reQueue_arrival (s : State) (c : Current) : (s.reQueue c).arrival = s.arrival := by rw [s.reQueue_frame c]
@[simp] theorem State.reQueue_tagCounter (s : State) (c : Current) : (s.reQueue c).tagCounter = s.tagCounter := by rw [s.reQueue_frame c]
@[simp] theorem State.reQueue_stations (s : State) (c : Current) : (s.reQueue c).stations = s.stations := by rw [s.reQueue_frame c]
@[simp] theorem State.reQueue_jobCounter (s : State) (c : Current) : (s.reQueue c).jobCounter = s.jobCounter := by rw [s.reQueue_frame c]
@[simp] theorem State.reQueue_arbiter (s : State) (c : Current) : (s.reQueue c).arbiter = s.arbiter := by rw [s.reQueue_frame c]
@[simp] theorem State.reQueue_load (s : State) (c : Current) : (s.reQueue c).load = s.load := by rw [s.reQueue_frame c]
@[simp] theorem State.reQueue_params (s : State) (c : Current) : (s.reQueue c).params = s.params := by rw [s.reQueue_frame c]
@[simp] theorem State.reQueue_enable (s : State) (c : Current) : (s.reQueue c).enable = s.enable := by rw [s.reQueue_frame c]
@[simp] theorem State.reQueue_supervisor (s : State) (c : Current) : (s.reQueue c).supervisor = s.supervisor := by rw [s.reQueue_frame c]
@[simp] theorem State.reQueue_draws (s : State) (c : Current) : (s.reQueue c).draws = s.draws := by rw [s.reQueue_frame c]
@[simp] theorem State.reQueue_pending (s : State) (c : Current) : (s.reQueue c).pending = s.pending := by rw [s.reQueue_frame c]
@[simp] theorem State.reQueue_slot (s : State) (c : Current) (k' : SlotIx) : (s.reQueue c).slot k' = s.slot k' := by simp [State.slot]
@[simp] theorem State.reQueue_station (s : State) (c : Current) (j' : Station) : (s.reQueue c).station j' = s.station j' := by simp [State.station]

theorem State.setTote_frame (s : State) (i : Station) (t : Tote) :
    s.setTote i t = { s with
      stations := (s.setTote i t).stations } := by
  apply State.ext_of_fields <;> (try with_reducible rfl) <;> simp only [State.setTote] <;> simp
@[simp] theorem State.setTote_clock (s : State) (i : Station) (t : Tote) : (s.setTote i t).clock = s.clock := by rw [s.setTote_frame i t]
@[simp] theorem State.setTote_slots (s : State) (i : Station) (t : Tote) : (s.setTote i t).slots = s.slots := by rw [s.setTote_frame i t]
@[simp] theorem State.setTote_arrival (s : State) (i : Station) (t : Tote) : (s.setTote i t).arrival = s.arrival := by rw [s.setTote_frame i t]
@[simp] theorem State.setTote_tagCounter (s : State) (i : Station) (t : Tote) : (s.setTote i t).tagCounter = s.tagCounter := by rw [s.setTote_frame i t]
@[simp] theorem State.setTote_pool (s : State) (i : Station) (t : Tote) : (s.setTote i t).pool = s.pool := by rw [s.setTote_frame i t]
@[simp] theorem State.setTote_queue (s : State) (i : Station) (t : Tote) : (s.setTote i t).queue = s.queue := by rw [s.setTote_frame i t]
@[simp] theorem State.setTote_jobCounter (s : State) (i : Station) (t : Tote) : (s.setTote i t).jobCounter = s.jobCounter := by rw [s.setTote_frame i t]
@[simp] theorem State.setTote_arbiter (s : State) (i : Station) (t : Tote) : (s.setTote i t).arbiter = s.arbiter := by rw [s.setTote_frame i t]
@[simp] theorem State.setTote_shuttle (s : State) (i : Station) (t : Tote) : (s.setTote i t).shuttle = s.shuttle := by rw [s.setTote_frame i t]
@[simp] theorem State.setTote_load (s : State) (i : Station) (t : Tote) : (s.setTote i t).load = s.load := by rw [s.setTote_frame i t]
@[simp] theorem State.setTote_drive (s : State) (i : Station) (t : Tote) : (s.setTote i t).drive = s.drive := by rw [s.setTote_frame i t]
@[simp] theorem State.setTote_params (s : State) (i : Station) (t : Tote) : (s.setTote i t).params = s.params := by rw [s.setTote_frame i t]
@[simp] theorem State.setTote_attention (s : State) (i : Station) (t : Tote) : (s.setTote i t).attention = s.attention := by rw [s.setTote_frame i t]
@[simp] theorem State.setTote_enable (s : State) (i : Station) (t : Tote) : (s.setTote i t).enable = s.enable := by rw [s.setTote_frame i t]
@[simp] theorem State.setTote_supervisor (s : State) (i : Station) (t : Tote) : (s.setTote i t).supervisor = s.supervisor := by rw [s.setTote_frame i t]
@[simp] theorem State.setTote_dispatchDue (s : State) (i : Station) (t : Tote) : (s.setTote i t).dispatchDue = s.dispatchDue := by rw [s.setTote_frame i t]
@[simp] theorem State.setTote_draws (s : State) (i : Station) (t : Tote) : (s.setTote i t).draws = s.draws := by rw [s.setTote_frame i t]
@[simp] theorem State.setTote_pending (s : State) (i : Station) (t : Tote) : (s.setTote i t).pending = s.pending := by rw [s.setTote_frame i t]
@[simp] theorem State.setTote_slot (s : State) (i : Station) (t : Tote) (k' : SlotIx) : (s.setTote i t).slot k' = s.slot k' := by simp [State.slot]

theorem State.setSpindle_frame (s : State) (i : Station) (p : Spindle) :
    s.setSpindle i p = { s with
      stations := (s.setSpindle i p).stations } := by
  apply State.ext_of_fields <;> (try with_reducible rfl) <;> simp only [State.setSpindle] <;> simp
@[simp] theorem State.setSpindle_clock (s : State) (i : Station) (p : Spindle) : (s.setSpindle i p).clock = s.clock := by rw [s.setSpindle_frame i p]
@[simp] theorem State.setSpindle_slots (s : State) (i : Station) (p : Spindle) : (s.setSpindle i p).slots = s.slots := by rw [s.setSpindle_frame i p]
@[simp] theorem State.setSpindle_arrival (s : State) (i : Station) (p : Spindle) : (s.setSpindle i p).arrival = s.arrival := by rw [s.setSpindle_frame i p]
@[simp] theorem State.setSpindle_tagCounter (s : State) (i : Station) (p : Spindle) : (s.setSpindle i p).tagCounter = s.tagCounter := by rw [s.setSpindle_frame i p]
@[simp] theorem State.setSpindle_pool (s : State) (i : Station) (p : Spindle) : (s.setSpindle i p).pool = s.pool := by rw [s.setSpindle_frame i p]
@[simp] theorem State.setSpindle_queue (s : State) (i : Station) (p : Spindle) : (s.setSpindle i p).queue = s.queue := by rw [s.setSpindle_frame i p]
@[simp] theorem State.setSpindle_jobCounter (s : State) (i : Station) (p : Spindle) : (s.setSpindle i p).jobCounter = s.jobCounter := by rw [s.setSpindle_frame i p]
@[simp] theorem State.setSpindle_arbiter (s : State) (i : Station) (p : Spindle) : (s.setSpindle i p).arbiter = s.arbiter := by rw [s.setSpindle_frame i p]
@[simp] theorem State.setSpindle_shuttle (s : State) (i : Station) (p : Spindle) : (s.setSpindle i p).shuttle = s.shuttle := by rw [s.setSpindle_frame i p]
@[simp] theorem State.setSpindle_load (s : State) (i : Station) (p : Spindle) : (s.setSpindle i p).load = s.load := by rw [s.setSpindle_frame i p]
@[simp] theorem State.setSpindle_drive (s : State) (i : Station) (p : Spindle) : (s.setSpindle i p).drive = s.drive := by rw [s.setSpindle_frame i p]
@[simp] theorem State.setSpindle_params (s : State) (i : Station) (p : Spindle) : (s.setSpindle i p).params = s.params := by rw [s.setSpindle_frame i p]
@[simp] theorem State.setSpindle_attention (s : State) (i : Station) (p : Spindle) : (s.setSpindle i p).attention = s.attention := by rw [s.setSpindle_frame i p]
@[simp] theorem State.setSpindle_enable (s : State) (i : Station) (p : Spindle) : (s.setSpindle i p).enable = s.enable := by rw [s.setSpindle_frame i p]
@[simp] theorem State.setSpindle_supervisor (s : State) (i : Station) (p : Spindle) : (s.setSpindle i p).supervisor = s.supervisor := by rw [s.setSpindle_frame i p]
@[simp] theorem State.setSpindle_dispatchDue (s : State) (i : Station) (p : Spindle) : (s.setSpindle i p).dispatchDue = s.dispatchDue := by rw [s.setSpindle_frame i p]
@[simp] theorem State.setSpindle_draws (s : State) (i : Station) (p : Spindle) : (s.setSpindle i p).draws = s.draws := by rw [s.setSpindle_frame i p]
@[simp] theorem State.setSpindle_pending (s : State) (i : Station) (p : Spindle) : (s.setSpindle i p).pending = s.pending := by rw [s.setSpindle_frame i p]
@[simp] theorem State.setSpindle_slot (s : State) (i : Station) (p : Spindle) (k' : SlotIx) : (s.setSpindle i p).slot k' = s.slot k' := by simp [State.slot]

theorem State.toteFills_frame (s : State) (i : Station) :
    s.toteFills i = { s with
      slots := (s.toteFills i).slots
      stations := (s.toteFills i).stations
      queue := (s.toteFills i).queue
      jobCounter := (s.toteFills i).jobCounter
      shuttle := (s.toteFills i).shuttle
      attention := (s.toteFills i).attention
      dispatchDue := (s.toteFills i).dispatchDue } := by
  apply State.ext_of_fields <;> (try with_reducible rfl) <;> simp only [State.toteFills] <;> (repeat' split) <;> simp
@[simp] theorem State.toteFills_clock (s : State) (i : Station) : (s.toteFills i).clock = s.clock := by rw [s.toteFills_frame i]
@[simp] theorem State.toteFills_arrival (s : State) (i : Station) : (s.toteFills i).arrival = s.arrival := by rw [s.toteFills_frame i]
@[simp] theorem State.toteFills_tagCounter (s : State) (i : Station) : (s.toteFills i).tagCounter = s.tagCounter := by rw [s.toteFills_frame i]
@[simp] theorem State.toteFills_pool (s : State) (i : Station) : (s.toteFills i).pool = s.pool := by rw [s.toteFills_frame i]
@[simp] theorem State.toteFills_arbiter (s : State) (i : Station) : (s.toteFills i).arbiter = s.arbiter := by rw [s.toteFills_frame i]
@[simp] theorem State.toteFills_load (s : State) (i : Station) : (s.toteFills i).load = s.load := by rw [s.toteFills_frame i]
@[simp] theorem State.toteFills_drive (s : State) (i : Station) : (s.toteFills i).drive = s.drive := by rw [s.toteFills_frame i]
@[simp] theorem State.toteFills_params (s : State) (i : Station) : (s.toteFills i).params = s.params := by rw [s.toteFills_frame i]
@[simp] theorem State.toteFills_enable (s : State) (i : Station) : (s.toteFills i).enable = s.enable := by rw [s.toteFills_frame i]
@[simp] theorem State.toteFills_supervisor (s : State) (i : Station) : (s.toteFills i).supervisor = s.supervisor := by rw [s.toteFills_frame i]
@[simp] theorem State.toteFills_draws (s : State) (i : Station) : (s.toteFills i).draws = s.draws := by rw [s.toteFills_frame i]
@[simp] theorem State.toteFills_pending (s : State) (i : Station) : (s.toteFills i).pending = s.pending := by rw [s.toteFills_frame i]

theorem State.exchangeLead_frame (s : State) (i : Station) :
    s.exchangeLead i = { s with
      slots := (s.exchangeLead i).slots
      stations := (s.exchangeLead i).stations
      queue := (s.exchangeLead i).queue
      jobCounter := (s.exchangeLead i).jobCounter
      attention := (s.exchangeLead i).attention
      dispatchDue := (s.exchangeLead i).dispatchDue } := by
  apply State.ext_of_fields <;> (try with_reducible rfl) <;> simp only [State.exchangeLead] <;> (repeat' split) <;> simp
@[simp] theorem State.exchangeLead_clock (s : State) (i : Station) : (s.exchangeLead i).clock = s.clock := by rw [s.exchangeLead_frame i]
@[simp] theorem State.exchangeLead_arrival (s : State) (i : Station) : (s.exchangeLead i).arrival = s.arrival := by rw [s.exchangeLead_frame i]
@[simp] theorem State.exchangeLead_tagCounter (s : State) (i : Station) : (s.exchangeLead i).tagCounter = s.tagCounter := by rw [s.exchangeLead_frame i]
@[simp] theorem State.exchangeLead_pool (s : State) (i : Station) : (s.exchangeLead i).pool = s.pool := by rw [s.exchangeLead_frame i]
@[simp] theorem State.exchangeLead_arbiter (s : State) (i : Station) : (s.exchangeLead i).arbiter = s.arbiter := by rw [s.exchangeLead_frame i]
@[simp] theorem State.exchangeLead_shuttle (s : State) (i : Station) : (s.exchangeLead i).shuttle = s.shuttle := by rw [s.exchangeLead_frame i]
@[simp] theorem State.exchangeLead_load (s : State) (i : Station) : (s.exchangeLead i).load = s.load := by rw [s.exchangeLead_frame i]
@[simp] theorem State.exchangeLead_drive (s : State) (i : Station) : (s.exchangeLead i).drive = s.drive := by rw [s.exchangeLead_frame i]
@[simp] theorem State.exchangeLead_params (s : State) (i : Station) : (s.exchangeLead i).params = s.params := by rw [s.exchangeLead_frame i]
@[simp] theorem State.exchangeLead_enable (s : State) (i : Station) : (s.exchangeLead i).enable = s.enable := by rw [s.exchangeLead_frame i]
@[simp] theorem State.exchangeLead_supervisor (s : State) (i : Station) : (s.exchangeLead i).supervisor = s.supervisor := by rw [s.exchangeLead_frame i]
@[simp] theorem State.exchangeLead_draws (s : State) (i : Station) : (s.exchangeLead i).draws = s.draws := by rw [s.exchangeLead_frame i]
@[simp] theorem State.exchangeLead_pending (s : State) (i : Station) : (s.exchangeLead i).pending = s.pending := by rw [s.exchangeLead_frame i]

theorem State.postAttached_frame (s : State) (k : JobKind) (i : Station) :
    s.postAttached k i = { s with
      slots := (s.postAttached k i).slots
      queue := (s.postAttached k i).queue
      jobCounter := (s.postAttached k i).jobCounter
      attention := (s.postAttached k i).attention
      dispatchDue := (s.postAttached k i).dispatchDue } := by
  apply State.ext_of_fields <;> (try with_reducible rfl) <;> simp only [State.postAttached] <;> split <;> simp
@[simp] theorem State.postAttached_clock (s : State) (k : JobKind) (i : Station) : (s.postAttached k i).clock = s.clock := by rw [s.postAttached_frame k i]
@[simp] theorem State.postAttached_arrival (s : State) (k : JobKind) (i : Station) : (s.postAttached k i).arrival = s.arrival := by rw [s.postAttached_frame k i]
@[simp] theorem State.postAttached_tagCounter (s : State) (k : JobKind) (i : Station) : (s.postAttached k i).tagCounter = s.tagCounter := by rw [s.postAttached_frame k i]
@[simp] theorem State.postAttached_stations (s : State) (k : JobKind) (i : Station) : (s.postAttached k i).stations = s.stations := by rw [s.postAttached_frame k i]
@[simp] theorem State.postAttached_pool (s : State) (k : JobKind) (i : Station) : (s.postAttached k i).pool = s.pool := by rw [s.postAttached_frame k i]
@[simp] theorem State.postAttached_arbiter (s : State) (k : JobKind) (i : Station) : (s.postAttached k i).arbiter = s.arbiter := by rw [s.postAttached_frame k i]
@[simp] theorem State.postAttached_shuttle (s : State) (k : JobKind) (i : Station) : (s.postAttached k i).shuttle = s.shuttle := by rw [s.postAttached_frame k i]
@[simp] theorem State.postAttached_load (s : State) (k : JobKind) (i : Station) : (s.postAttached k i).load = s.load := by rw [s.postAttached_frame k i]
@[simp] theorem State.postAttached_drive (s : State) (k : JobKind) (i : Station) : (s.postAttached k i).drive = s.drive := by rw [s.postAttached_frame k i]
@[simp] theorem State.postAttached_params (s : State) (k : JobKind) (i : Station) : (s.postAttached k i).params = s.params := by rw [s.postAttached_frame k i]
@[simp] theorem State.postAttached_enable (s : State) (k : JobKind) (i : Station) : (s.postAttached k i).enable = s.enable := by rw [s.postAttached_frame k i]
@[simp] theorem State.postAttached_supervisor (s : State) (k : JobKind) (i : Station) : (s.postAttached k i).supervisor = s.supervisor := by rw [s.postAttached_frame k i]
@[simp] theorem State.postAttached_draws (s : State) (k : JobKind) (i : Station) : (s.postAttached k i).draws = s.draws := by rw [s.postAttached_frame k i]
@[simp] theorem State.postAttached_pending (s : State) (k : JobKind) (i : Station) : (s.postAttached k i).pending = s.pending := by rw [s.postAttached_frame k i]
@[simp] theorem State.postAttached_station (s : State) (k : JobKind) (i : Station) (j' : Station) : (s.postAttached k i).station j' = s.station j' := by simp [State.station]

theorem State.toteEvaluate_frame (s : State) (i : Station) :
    s.toteEvaluate i = { s with
      slots := (s.toteEvaluate i).slots
      stations := (s.toteEvaluate i).stations
      queue := (s.toteEvaluate i).queue
      jobCounter := (s.toteEvaluate i).jobCounter
      attention := (s.toteEvaluate i).attention
      dispatchDue := (s.toteEvaluate i).dispatchDue } := by
  apply State.ext_of_fields <;> (try with_reducible rfl) <;> simp only [State.toteEvaluate] <;> (repeat' split) <;> simp
@[simp] theorem State.toteEvaluate_clock (s : State) (i : Station) : (s.toteEvaluate i).clock = s.clock := by rw [s.toteEvaluate_frame i]
@[simp] theorem State.toteEvaluate_arrival (s : State) (i : Station) : (s.toteEvaluate i).arrival = s.arrival := by rw [s.toteEvaluate_frame i]
@[simp] theorem State.toteEvaluate_tagCounter (s : State) (i : Station) : (s.toteEvaluate i).tagCounter = s.tagCounter := by rw [s.toteEvaluate_frame i]
@[simp] theorem State.toteEvaluate_pool (s : State) (i : Station) : (s.toteEvaluate i).pool = s.pool := by rw [s.toteEvaluate_frame i]
@[simp] theorem State.toteEvaluate_arbiter (s : State) (i : Station) : (s.toteEvaluate i).arbiter = s.arbiter := by rw [s.toteEvaluate_frame i]
@[simp] theorem State.toteEvaluate_shuttle (s : State) (i : Station) : (s.toteEvaluate i).shuttle = s.shuttle := by rw [s.toteEvaluate_frame i]
@[simp] theorem State.toteEvaluate_load (s : State) (i : Station) : (s.toteEvaluate i).load = s.load := by rw [s.toteEvaluate_frame i]
@[simp] theorem State.toteEvaluate_drive (s : State) (i : Station) : (s.toteEvaluate i).drive = s.drive := by rw [s.toteEvaluate_frame i]
@[simp] theorem State.toteEvaluate_params (s : State) (i : Station) : (s.toteEvaluate i).params = s.params := by rw [s.toteEvaluate_frame i]
@[simp] theorem State.toteEvaluate_enable (s : State) (i : Station) : (s.toteEvaluate i).enable = s.enable := by rw [s.toteEvaluate_frame i]
@[simp] theorem State.toteEvaluate_supervisor (s : State) (i : Station) : (s.toteEvaluate i).supervisor = s.supervisor := by rw [s.toteEvaluate_frame i]
@[simp] theorem State.toteEvaluate_draws (s : State) (i : Station) : (s.toteEvaluate i).draws = s.draws := by rw [s.toteEvaluate_frame i]
@[simp] theorem State.toteEvaluate_pending (s : State) (i : Station) : (s.toteEvaluate i).pending = s.pending := by rw [s.toteEvaluate_frame i]

theorem State.toteAttach_frame (s : State) (i : Station) :
    s.toteAttach i = { s with
      slots := (s.toteAttach i).slots
      stations := (s.toteAttach i).stations
      queue := (s.toteAttach i).queue
      jobCounter := (s.toteAttach i).jobCounter
      attention := (s.toteAttach i).attention
      dispatchDue := (s.toteAttach i).dispatchDue } := by
  apply State.ext_of_fields <;> (try with_reducible rfl) <;> simp only [State.toteAttach] <;> (repeat' split) <;> simp
@[simp] theorem State.toteAttach_clock (s : State) (i : Station) : (s.toteAttach i).clock = s.clock := by rw [s.toteAttach_frame i]
@[simp] theorem State.toteAttach_arrival (s : State) (i : Station) : (s.toteAttach i).arrival = s.arrival := by rw [s.toteAttach_frame i]
@[simp] theorem State.toteAttach_tagCounter (s : State) (i : Station) : (s.toteAttach i).tagCounter = s.tagCounter := by rw [s.toteAttach_frame i]
@[simp] theorem State.toteAttach_pool (s : State) (i : Station) : (s.toteAttach i).pool = s.pool := by rw [s.toteAttach_frame i]
@[simp] theorem State.toteAttach_arbiter (s : State) (i : Station) : (s.toteAttach i).arbiter = s.arbiter := by rw [s.toteAttach_frame i]
@[simp] theorem State.toteAttach_shuttle (s : State) (i : Station) : (s.toteAttach i).shuttle = s.shuttle := by rw [s.toteAttach_frame i]
@[simp] theorem State.toteAttach_load (s : State) (i : Station) : (s.toteAttach i).load = s.load := by rw [s.toteAttach_frame i]
@[simp] theorem State.toteAttach_drive (s : State) (i : Station) : (s.toteAttach i).drive = s.drive := by rw [s.toteAttach_frame i]
@[simp] theorem State.toteAttach_params (s : State) (i : Station) : (s.toteAttach i).params = s.params := by rw [s.toteAttach_frame i]
@[simp] theorem State.toteAttach_enable (s : State) (i : Station) : (s.toteAttach i).enable = s.enable := by rw [s.toteAttach_frame i]
@[simp] theorem State.toteAttach_supervisor (s : State) (i : Station) : (s.toteAttach i).supervisor = s.supervisor := by rw [s.toteAttach_frame i]
@[simp] theorem State.toteAttach_draws (s : State) (i : Station) : (s.toteAttach i).draws = s.draws := by rw [s.toteAttach_frame i]
@[simp] theorem State.toteAttach_pending (s : State) (i : Station) : (s.toteAttach i).pending = s.pending := by rw [s.toteAttach_frame i]

theorem State.newCapacity_frame (s : State) (i : Station) (u : Setup) :
    s.newCapacity i u = { s with
      slots := (s.newCapacity i u).slots
      stations := (s.newCapacity i u).stations
      queue := (s.newCapacity i u).queue
      jobCounter := (s.newCapacity i u).jobCounter
      shuttle := (s.newCapacity i u).shuttle
      attention := (s.newCapacity i u).attention
      dispatchDue := (s.newCapacity i u).dispatchDue } := by
  apply State.ext_of_fields <;> (try with_reducible rfl) <;> simp only [State.newCapacity] <;> simp only [State.toteEvaluate_clock, State.toteEvaluate_arrival, State.toteEvaluate_tagCounter, State.toteEvaluate_pool, State.toteEvaluate_arbiter, State.toteEvaluate_load, State.toteEvaluate_drive, State.toteEvaluate_params, State.toteEvaluate_enable, State.toteEvaluate_supervisor, State.toteEvaluate_draws, State.toteEvaluate_pending] <;> (repeat' split) <;> simp
@[simp] theorem State.newCapacity_clock (s : State) (i : Station) (u : Setup) : (s.newCapacity i u).clock = s.clock := by rw [s.newCapacity_frame i u]
@[simp] theorem State.newCapacity_arrival (s : State) (i : Station) (u : Setup) : (s.newCapacity i u).arrival = s.arrival := by rw [s.newCapacity_frame i u]
@[simp] theorem State.newCapacity_tagCounter (s : State) (i : Station) (u : Setup) : (s.newCapacity i u).tagCounter = s.tagCounter := by rw [s.newCapacity_frame i u]
@[simp] theorem State.newCapacity_pool (s : State) (i : Station) (u : Setup) : (s.newCapacity i u).pool = s.pool := by rw [s.newCapacity_frame i u]
@[simp] theorem State.newCapacity_arbiter (s : State) (i : Station) (u : Setup) : (s.newCapacity i u).arbiter = s.arbiter := by rw [s.newCapacity_frame i u]
@[simp] theorem State.newCapacity_load (s : State) (i : Station) (u : Setup) : (s.newCapacity i u).load = s.load := by rw [s.newCapacity_frame i u]
@[simp] theorem State.newCapacity_drive (s : State) (i : Station) (u : Setup) : (s.newCapacity i u).drive = s.drive := by rw [s.newCapacity_frame i u]
@[simp] theorem State.newCapacity_params (s : State) (i : Station) (u : Setup) : (s.newCapacity i u).params = s.params := by rw [s.newCapacity_frame i u]
@[simp] theorem State.newCapacity_enable (s : State) (i : Station) (u : Setup) : (s.newCapacity i u).enable = s.enable := by rw [s.newCapacity_frame i u]
@[simp] theorem State.newCapacity_supervisor (s : State) (i : Station) (u : Setup) : (s.newCapacity i u).supervisor = s.supervisor := by rw [s.newCapacity_frame i u]
@[simp] theorem State.newCapacity_draws (s : State) (i : Station) (u : Setup) : (s.newCapacity i u).draws = s.draws := by rw [s.newCapacity_frame i u]
@[simp] theorem State.newCapacity_pending (s : State) (i : Station) (u : Setup) : (s.newCapacity i u).pending = s.pending := by rw [s.newCapacity_frame i u]

theorem State.stationEvaluate_frame (s : State) (i : Station) :
    s.stationEvaluate i = { s with
      slots := (s.stationEvaluate i).slots
      stations := (s.stationEvaluate i).stations
      queue := (s.stationEvaluate i).queue
      jobCounter := (s.stationEvaluate i).jobCounter
      shuttle := (s.stationEvaluate i).shuttle
      attention := (s.stationEvaluate i).attention
      dispatchDue := (s.stationEvaluate i).dispatchDue } := by
  apply State.ext_of_fields <;> (try with_reducible rfl) <;> simp only [State.stationEvaluate] <;> (repeat' split) <;> simp
@[simp] theorem State.stationEvaluate_clock (s : State) (i : Station) : (s.stationEvaluate i).clock = s.clock := by rw [s.stationEvaluate_frame i]
@[simp] theorem State.stationEvaluate_arrival (s : State) (i : Station) : (s.stationEvaluate i).arrival = s.arrival := by rw [s.stationEvaluate_frame i]
@[simp] theorem State.stationEvaluate_tagCounter (s : State) (i : Station) : (s.stationEvaluate i).tagCounter = s.tagCounter := by rw [s.stationEvaluate_frame i]
@[simp] theorem State.stationEvaluate_pool (s : State) (i : Station) : (s.stationEvaluate i).pool = s.pool := by rw [s.stationEvaluate_frame i]
@[simp] theorem State.stationEvaluate_arbiter (s : State) (i : Station) : (s.stationEvaluate i).arbiter = s.arbiter := by rw [s.stationEvaluate_frame i]
@[simp] theorem State.stationEvaluate_load (s : State) (i : Station) : (s.stationEvaluate i).load = s.load := by rw [s.stationEvaluate_frame i]
@[simp] theorem State.stationEvaluate_drive (s : State) (i : Station) : (s.stationEvaluate i).drive = s.drive := by rw [s.stationEvaluate_frame i]
@[simp] theorem State.stationEvaluate_params (s : State) (i : Station) : (s.stationEvaluate i).params = s.params := by rw [s.stationEvaluate_frame i]
@[simp] theorem State.stationEvaluate_enable (s : State) (i : Station) : (s.stationEvaluate i).enable = s.enable := by rw [s.stationEvaluate_frame i]
@[simp] theorem State.stationEvaluate_supervisor (s : State) (i : Station) : (s.stationEvaluate i).supervisor = s.supervisor := by rw [s.stationEvaluate_frame i]
@[simp] theorem State.stationEvaluate_draws (s : State) (i : Station) : (s.stationEvaluate i).draws = s.draws := by rw [s.stationEvaluate_frame i]
@[simp] theorem State.stationEvaluate_pending (s : State) (i : Station) : (s.stationEvaluate i).pending = s.pending := by rw [s.stationEvaluate_frame i]

theorem State.leadReturn_frame (s : State) (i : Station) :
    s.leadReturn i = { s with
      stations := (s.leadReturn i).stations } := by
  apply State.ext_of_fields <;> (try with_reducible rfl) <;> simp only [State.leadReturn] <;> (repeat' split) <;> simp
@[simp] theorem State.leadReturn_clock (s : State) (i : Station) : (s.leadReturn i).clock = s.clock := by rw [s.leadReturn_frame i]
@[simp] theorem State.leadReturn_slots (s : State) (i : Station) : (s.leadReturn i).slots = s.slots := by rw [s.leadReturn_frame i]
@[simp] theorem State.leadReturn_arrival (s : State) (i : Station) : (s.leadReturn i).arrival = s.arrival := by rw [s.leadReturn_frame i]
@[simp] theorem State.leadReturn_tagCounter (s : State) (i : Station) : (s.leadReturn i).tagCounter = s.tagCounter := by rw [s.leadReturn_frame i]
@[simp] theorem State.leadReturn_pool (s : State) (i : Station) : (s.leadReturn i).pool = s.pool := by rw [s.leadReturn_frame i]
@[simp] theorem State.leadReturn_queue (s : State) (i : Station) : (s.leadReturn i).queue = s.queue := by rw [s.leadReturn_frame i]
@[simp] theorem State.leadReturn_jobCounter (s : State) (i : Station) : (s.leadReturn i).jobCounter = s.jobCounter := by rw [s.leadReturn_frame i]
@[simp] theorem State.leadReturn_arbiter (s : State) (i : Station) : (s.leadReturn i).arbiter = s.arbiter := by rw [s.leadReturn_frame i]
@[simp] theorem State.leadReturn_shuttle (s : State) (i : Station) : (s.leadReturn i).shuttle = s.shuttle := by rw [s.leadReturn_frame i]
@[simp] theorem State.leadReturn_load (s : State) (i : Station) : (s.leadReturn i).load = s.load := by rw [s.leadReturn_frame i]
@[simp] theorem State.leadReturn_drive (s : State) (i : Station) : (s.leadReturn i).drive = s.drive := by rw [s.leadReturn_frame i]
@[simp] theorem State.leadReturn_params (s : State) (i : Station) : (s.leadReturn i).params = s.params := by rw [s.leadReturn_frame i]
@[simp] theorem State.leadReturn_attention (s : State) (i : Station) : (s.leadReturn i).attention = s.attention := by rw [s.leadReturn_frame i]
@[simp] theorem State.leadReturn_enable (s : State) (i : Station) : (s.leadReturn i).enable = s.enable := by rw [s.leadReturn_frame i]
@[simp] theorem State.leadReturn_supervisor (s : State) (i : Station) : (s.leadReturn i).supervisor = s.supervisor := by rw [s.leadReturn_frame i]
@[simp] theorem State.leadReturn_dispatchDue (s : State) (i : Station) : (s.leadReturn i).dispatchDue = s.dispatchDue := by rw [s.leadReturn_frame i]
@[simp] theorem State.leadReturn_draws (s : State) (i : Station) : (s.leadReturn i).draws = s.draws := by rw [s.leadReturn_frame i]
@[simp] theorem State.leadReturn_pending (s : State) (i : Station) : (s.leadReturn i).pending = s.pending := by rw [s.leadReturn_frame i]
@[simp] theorem State.leadReturn_slot (s : State) (i : Station) (k' : SlotIx) : (s.leadReturn i).slot k' = s.slot k' := by simp [State.slot]

theorem State.leadRecompute_frame (s : State) (i : Station) :
    s.leadRecompute i = { s with
      stations := (s.leadRecompute i).stations } := by
  apply State.ext_of_fields <;> (try with_reducible rfl) <;> simp only [State.leadRecompute] <;> (repeat' split) <;> simp
@[simp] theorem State.leadRecompute_clock (s : State) (i : Station) : (s.leadRecompute i).clock = s.clock := by rw [s.leadRecompute_frame i]
@[simp] theorem State.leadRecompute_slots (s : State) (i : Station) : (s.leadRecompute i).slots = s.slots := by rw [s.leadRecompute_frame i]
@[simp] theorem State.leadRecompute_arrival (s : State) (i : Station) : (s.leadRecompute i).arrival = s.arrival := by rw [s.leadRecompute_frame i]
@[simp] theorem State.leadRecompute_tagCounter (s : State) (i : Station) : (s.leadRecompute i).tagCounter = s.tagCounter := by rw [s.leadRecompute_frame i]
@[simp] theorem State.leadRecompute_pool (s : State) (i : Station) : (s.leadRecompute i).pool = s.pool := by rw [s.leadRecompute_frame i]
@[simp] theorem State.leadRecompute_queue (s : State) (i : Station) : (s.leadRecompute i).queue = s.queue := by rw [s.leadRecompute_frame i]
@[simp] theorem State.leadRecompute_jobCounter (s : State) (i : Station) : (s.leadRecompute i).jobCounter = s.jobCounter := by rw [s.leadRecompute_frame i]
@[simp] theorem State.leadRecompute_arbiter (s : State) (i : Station) : (s.leadRecompute i).arbiter = s.arbiter := by rw [s.leadRecompute_frame i]
@[simp] theorem State.leadRecompute_shuttle (s : State) (i : Station) : (s.leadRecompute i).shuttle = s.shuttle := by rw [s.leadRecompute_frame i]
@[simp] theorem State.leadRecompute_load (s : State) (i : Station) : (s.leadRecompute i).load = s.load := by rw [s.leadRecompute_frame i]
@[simp] theorem State.leadRecompute_drive (s : State) (i : Station) : (s.leadRecompute i).drive = s.drive := by rw [s.leadRecompute_frame i]
@[simp] theorem State.leadRecompute_params (s : State) (i : Station) : (s.leadRecompute i).params = s.params := by rw [s.leadRecompute_frame i]
@[simp] theorem State.leadRecompute_attention (s : State) (i : Station) : (s.leadRecompute i).attention = s.attention := by rw [s.leadRecompute_frame i]
@[simp] theorem State.leadRecompute_enable (s : State) (i : Station) : (s.leadRecompute i).enable = s.enable := by rw [s.leadRecompute_frame i]
@[simp] theorem State.leadRecompute_supervisor (s : State) (i : Station) : (s.leadRecompute i).supervisor = s.supervisor := by rw [s.leadRecompute_frame i]
@[simp] theorem State.leadRecompute_dispatchDue (s : State) (i : Station) : (s.leadRecompute i).dispatchDue = s.dispatchDue := by rw [s.leadRecompute_frame i]
@[simp] theorem State.leadRecompute_draws (s : State) (i : Station) : (s.leadRecompute i).draws = s.draws := by rw [s.leadRecompute_frame i]
@[simp] theorem State.leadRecompute_pending (s : State) (i : Station) : (s.leadRecompute i).pending = s.pending := by rw [s.leadRecompute_frame i]
@[simp] theorem State.leadRecompute_slot (s : State) (i : Station) (k' : SlotIx) : (s.leadRecompute i).slot k' = s.slot k' := by simp [State.slot]

theorem State.leadTrigger_frame (s : State) (i : Station) :
    s.leadTrigger i = { s with
      slots := (s.leadTrigger i).slots
      stations := (s.leadTrigger i).stations
      queue := (s.leadTrigger i).queue
      jobCounter := (s.leadTrigger i).jobCounter
      attention := (s.leadTrigger i).attention
      dispatchDue := (s.leadTrigger i).dispatchDue } := by
  apply State.ext_of_fields <;> (try with_reducible rfl) <;> simp only [State.leadTrigger] <;> (repeat' split) <;> simp
@[simp] theorem State.leadTrigger_clock (s : State) (i : Station) : (s.leadTrigger i).clock = s.clock := by rw [s.leadTrigger_frame i]
@[simp] theorem State.leadTrigger_arrival (s : State) (i : Station) : (s.leadTrigger i).arrival = s.arrival := by rw [s.leadTrigger_frame i]
@[simp] theorem State.leadTrigger_tagCounter (s : State) (i : Station) : (s.leadTrigger i).tagCounter = s.tagCounter := by rw [s.leadTrigger_frame i]
@[simp] theorem State.leadTrigger_pool (s : State) (i : Station) : (s.leadTrigger i).pool = s.pool := by rw [s.leadTrigger_frame i]
@[simp] theorem State.leadTrigger_arbiter (s : State) (i : Station) : (s.leadTrigger i).arbiter = s.arbiter := by rw [s.leadTrigger_frame i]
@[simp] theorem State.leadTrigger_shuttle (s : State) (i : Station) : (s.leadTrigger i).shuttle = s.shuttle := by rw [s.leadTrigger_frame i]
@[simp] theorem State.leadTrigger_load (s : State) (i : Station) : (s.leadTrigger i).load = s.load := by rw [s.leadTrigger_frame i]
@[simp] theorem State.leadTrigger_drive (s : State) (i : Station) : (s.leadTrigger i).drive = s.drive := by rw [s.leadTrigger_frame i]
@[simp] theorem State.leadTrigger_params (s : State) (i : Station) : (s.leadTrigger i).params = s.params := by rw [s.leadTrigger_frame i]
@[simp] theorem State.leadTrigger_enable (s : State) (i : Station) : (s.leadTrigger i).enable = s.enable := by rw [s.leadTrigger_frame i]
@[simp] theorem State.leadTrigger_supervisor (s : State) (i : Station) : (s.leadTrigger i).supervisor = s.supervisor := by rw [s.leadTrigger_frame i]
@[simp] theorem State.leadTrigger_draws (s : State) (i : Station) : (s.leadTrigger i).draws = s.draws := by rw [s.leadTrigger_frame i]
@[simp] theorem State.leadTrigger_pending (s : State) (i : Station) : (s.leadTrigger i).pending = s.pending := by rw [s.leadTrigger_frame i]

theorem State.leadEnding_frame (s : State) (i : Station) :
    s.leadEnding i = { s with
      stations := (s.leadEnding i).stations } := by
  apply State.ext_of_fields <;> (try with_reducible rfl) <;> simp only [State.leadEnding] <;> (repeat' split) <;> simp
@[simp] theorem State.leadEnding_clock (s : State) (i : Station) : (s.leadEnding i).clock = s.clock := by rw [s.leadEnding_frame i]
@[simp] theorem State.leadEnding_slots (s : State) (i : Station) : (s.leadEnding i).slots = s.slots := by rw [s.leadEnding_frame i]
@[simp] theorem State.leadEnding_arrival (s : State) (i : Station) : (s.leadEnding i).arrival = s.arrival := by rw [s.leadEnding_frame i]
@[simp] theorem State.leadEnding_tagCounter (s : State) (i : Station) : (s.leadEnding i).tagCounter = s.tagCounter := by rw [s.leadEnding_frame i]
@[simp] theorem State.leadEnding_pool (s : State) (i : Station) : (s.leadEnding i).pool = s.pool := by rw [s.leadEnding_frame i]
@[simp] theorem State.leadEnding_queue (s : State) (i : Station) : (s.leadEnding i).queue = s.queue := by rw [s.leadEnding_frame i]
@[simp] theorem State.leadEnding_jobCounter (s : State) (i : Station) : (s.leadEnding i).jobCounter = s.jobCounter := by rw [s.leadEnding_frame i]
@[simp] theorem State.leadEnding_arbiter (s : State) (i : Station) : (s.leadEnding i).arbiter = s.arbiter := by rw [s.leadEnding_frame i]
@[simp] theorem State.leadEnding_shuttle (s : State) (i : Station) : (s.leadEnding i).shuttle = s.shuttle := by rw [s.leadEnding_frame i]
@[simp] theorem State.leadEnding_load (s : State) (i : Station) : (s.leadEnding i).load = s.load := by rw [s.leadEnding_frame i]
@[simp] theorem State.leadEnding_drive (s : State) (i : Station) : (s.leadEnding i).drive = s.drive := by rw [s.leadEnding_frame i]
@[simp] theorem State.leadEnding_params (s : State) (i : Station) : (s.leadEnding i).params = s.params := by rw [s.leadEnding_frame i]
@[simp] theorem State.leadEnding_attention (s : State) (i : Station) : (s.leadEnding i).attention = s.attention := by rw [s.leadEnding_frame i]
@[simp] theorem State.leadEnding_enable (s : State) (i : Station) : (s.leadEnding i).enable = s.enable := by rw [s.leadEnding_frame i]
@[simp] theorem State.leadEnding_supervisor (s : State) (i : Station) : (s.leadEnding i).supervisor = s.supervisor := by rw [s.leadEnding_frame i]
@[simp] theorem State.leadEnding_dispatchDue (s : State) (i : Station) : (s.leadEnding i).dispatchDue = s.dispatchDue := by rw [s.leadEnding_frame i]
@[simp] theorem State.leadEnding_draws (s : State) (i : Station) : (s.leadEnding i).draws = s.draws := by rw [s.leadEnding_frame i]
@[simp] theorem State.leadEnding_pending (s : State) (i : Station) : (s.leadEnding i).pending = s.pending := by rw [s.leadEnding_frame i]
@[simp] theorem State.leadEnding_slot (s : State) (i : Station) (k' : SlotIx) : (s.leadEnding i).slot k' = s.slot k' := by simp [State.slot]

theorem State.leadEvaluate_frame (s : State) (i : Station) :
    s.leadEvaluate i = { s with
      slots := (s.leadEvaluate i).slots
      stations := (s.leadEvaluate i).stations
      queue := (s.leadEvaluate i).queue
      jobCounter := (s.leadEvaluate i).jobCounter
      attention := (s.leadEvaluate i).attention
      dispatchDue := (s.leadEvaluate i).dispatchDue } := by
  apply State.ext_of_fields <;> (try with_reducible rfl) <;> simp only [State.leadEvaluate] <;> simp
@[simp] theorem State.leadEvaluate_clock (s : State) (i : Station) : (s.leadEvaluate i).clock = s.clock := by rw [s.leadEvaluate_frame i]
@[simp] theorem State.leadEvaluate_arrival (s : State) (i : Station) : (s.leadEvaluate i).arrival = s.arrival := by rw [s.leadEvaluate_frame i]
@[simp] theorem State.leadEvaluate_tagCounter (s : State) (i : Station) : (s.leadEvaluate i).tagCounter = s.tagCounter := by rw [s.leadEvaluate_frame i]
@[simp] theorem State.leadEvaluate_pool (s : State) (i : Station) : (s.leadEvaluate i).pool = s.pool := by rw [s.leadEvaluate_frame i]
@[simp] theorem State.leadEvaluate_arbiter (s : State) (i : Station) : (s.leadEvaluate i).arbiter = s.arbiter := by rw [s.leadEvaluate_frame i]
@[simp] theorem State.leadEvaluate_shuttle (s : State) (i : Station) : (s.leadEvaluate i).shuttle = s.shuttle := by rw [s.leadEvaluate_frame i]
@[simp] theorem State.leadEvaluate_load (s : State) (i : Station) : (s.leadEvaluate i).load = s.load := by rw [s.leadEvaluate_frame i]
@[simp] theorem State.leadEvaluate_drive (s : State) (i : Station) : (s.leadEvaluate i).drive = s.drive := by rw [s.leadEvaluate_frame i]
@[simp] theorem State.leadEvaluate_params (s : State) (i : Station) : (s.leadEvaluate i).params = s.params := by rw [s.leadEvaluate_frame i]
@[simp] theorem State.leadEvaluate_enable (s : State) (i : Station) : (s.leadEvaluate i).enable = s.enable := by rw [s.leadEvaluate_frame i]
@[simp] theorem State.leadEvaluate_supervisor (s : State) (i : Station) : (s.leadEvaluate i).supervisor = s.supervisor := by rw [s.leadEvaluate_frame i]
@[simp] theorem State.leadEvaluate_draws (s : State) (i : Station) : (s.leadEvaluate i).draws = s.draws := by rw [s.leadEvaluate_frame i]
@[simp] theorem State.leadEvaluate_pending (s : State) (i : Station) : (s.leadEvaluate i).pending = s.pending := by rw [s.leadEvaluate_frame i]

theorem State.pickEmpty_frame (s : State) :
    s.pickEmpty = { s with
      pool := s.pickEmpty.pool
      load := s.pickEmpty.load
      attention := s.pickEmpty.attention
      dispatchDue := s.pickEmpty.dispatchDue } := by
  apply State.ext_of_fields <;> (try with_reducible rfl) <;> simp only [State.pickEmpty] <;> simp
@[simp] theorem State.pickEmpty_clock (s : State) : s.pickEmpty.clock = s.clock := by rw [s.pickEmpty_frame]
@[simp] theorem State.pickEmpty_slots (s : State) : s.pickEmpty.slots = s.slots := by rw [s.pickEmpty_frame]
@[simp] theorem State.pickEmpty_arrival (s : State) : s.pickEmpty.arrival = s.arrival := by rw [s.pickEmpty_frame]
@[simp] theorem State.pickEmpty_tagCounter (s : State) : s.pickEmpty.tagCounter = s.tagCounter := by rw [s.pickEmpty_frame]
@[simp] theorem State.pickEmpty_stations (s : State) : s.pickEmpty.stations = s.stations := by rw [s.pickEmpty_frame]
@[simp] theorem State.pickEmpty_queue (s : State) : s.pickEmpty.queue = s.queue := by rw [s.pickEmpty_frame]
@[simp] theorem State.pickEmpty_jobCounter (s : State) : s.pickEmpty.jobCounter = s.jobCounter := by rw [s.pickEmpty_frame]
@[simp] theorem State.pickEmpty_arbiter (s : State) : s.pickEmpty.arbiter = s.arbiter := by rw [s.pickEmpty_frame]
@[simp] theorem State.pickEmpty_shuttle (s : State) : s.pickEmpty.shuttle = s.shuttle := by rw [s.pickEmpty_frame]
@[simp] theorem State.pickEmpty_drive (s : State) : s.pickEmpty.drive = s.drive := by rw [s.pickEmpty_frame]
@[simp] theorem State.pickEmpty_params (s : State) : s.pickEmpty.params = s.params := by rw [s.pickEmpty_frame]
@[simp] theorem State.pickEmpty_enable (s : State) : s.pickEmpty.enable = s.enable := by rw [s.pickEmpty_frame]
@[simp] theorem State.pickEmpty_supervisor (s : State) : s.pickEmpty.supervisor = s.supervisor := by rw [s.pickEmpty_frame]
@[simp] theorem State.pickEmpty_draws (s : State) : s.pickEmpty.draws = s.draws := by rw [s.pickEmpty_frame]
@[simp] theorem State.pickEmpty_pending (s : State) : s.pickEmpty.pending = s.pending := by rw [s.pickEmpty_frame]
@[simp] theorem State.pickEmpty_slot (s : State) (k' : SlotIx) : s.pickEmpty.slot k' = s.slot k' := by simp [State.slot]
@[simp] theorem State.pickEmpty_station (s : State) (j' : Station) : s.pickEmpty.station j' = s.station j' := by simp [State.station]

theorem State.swapTote_frame (s : State) (i : Station) :
    s.swapTote i = { s with
      stations := (s.swapTote i).stations
      load := (s.swapTote i).load } := by
  apply State.ext_of_fields <;> (try with_reducible rfl) <;> simp only [State.swapTote] <;> (repeat' split) <;> simp
@[simp] theorem State.swapTote_clock (s : State) (i : Station) : (s.swapTote i).clock = s.clock := by rw [s.swapTote_frame i]
@[simp] theorem State.swapTote_slots (s : State) (i : Station) : (s.swapTote i).slots = s.slots := by rw [s.swapTote_frame i]
@[simp] theorem State.swapTote_arrival (s : State) (i : Station) : (s.swapTote i).arrival = s.arrival := by rw [s.swapTote_frame i]
@[simp] theorem State.swapTote_tagCounter (s : State) (i : Station) : (s.swapTote i).tagCounter = s.tagCounter := by rw [s.swapTote_frame i]
@[simp] theorem State.swapTote_pool (s : State) (i : Station) : (s.swapTote i).pool = s.pool := by rw [s.swapTote_frame i]
@[simp] theorem State.swapTote_queue (s : State) (i : Station) : (s.swapTote i).queue = s.queue := by rw [s.swapTote_frame i]
@[simp] theorem State.swapTote_jobCounter (s : State) (i : Station) : (s.swapTote i).jobCounter = s.jobCounter := by rw [s.swapTote_frame i]
@[simp] theorem State.swapTote_arbiter (s : State) (i : Station) : (s.swapTote i).arbiter = s.arbiter := by rw [s.swapTote_frame i]
@[simp] theorem State.swapTote_shuttle (s : State) (i : Station) : (s.swapTote i).shuttle = s.shuttle := by rw [s.swapTote_frame i]
@[simp] theorem State.swapTote_drive (s : State) (i : Station) : (s.swapTote i).drive = s.drive := by rw [s.swapTote_frame i]
@[simp] theorem State.swapTote_params (s : State) (i : Station) : (s.swapTote i).params = s.params := by rw [s.swapTote_frame i]
@[simp] theorem State.swapTote_attention (s : State) (i : Station) : (s.swapTote i).attention = s.attention := by rw [s.swapTote_frame i]
@[simp] theorem State.swapTote_enable (s : State) (i : Station) : (s.swapTote i).enable = s.enable := by rw [s.swapTote_frame i]
@[simp] theorem State.swapTote_supervisor (s : State) (i : Station) : (s.swapTote i).supervisor = s.supervisor := by rw [s.swapTote_frame i]
@[simp] theorem State.swapTote_dispatchDue (s : State) (i : Station) : (s.swapTote i).dispatchDue = s.dispatchDue := by rw [s.swapTote_frame i]
@[simp] theorem State.swapTote_draws (s : State) (i : Station) : (s.swapTote i).draws = s.draws := by rw [s.swapTote_frame i]
@[simp] theorem State.swapTote_pending (s : State) (i : Station) : (s.swapTote i).pending = s.pending := by rw [s.swapTote_frame i]
@[simp] theorem State.swapTote_slot (s : State) (i : Station) (k' : SlotIx) : (s.swapTote i).slot k' = s.slot k' := by simp [State.slot]

theorem State.placeTote_frame (s : State) (i : Station) :
    s.placeTote i = { s with
      stations := (s.placeTote i).stations
      load := (s.placeTote i).load } := by
  apply State.ext_of_fields <;> (try with_reducible rfl) <;> simp only [State.placeTote] <;> simp
@[simp] theorem State.placeTote_clock (s : State) (i : Station) : (s.placeTote i).clock = s.clock := by rw [s.placeTote_frame i]
@[simp] theorem State.placeTote_slots (s : State) (i : Station) : (s.placeTote i).slots = s.slots := by rw [s.placeTote_frame i]
@[simp] theorem State.placeTote_arrival (s : State) (i : Station) : (s.placeTote i).arrival = s.arrival := by rw [s.placeTote_frame i]
@[simp] theorem State.placeTote_tagCounter (s : State) (i : Station) : (s.placeTote i).tagCounter = s.tagCounter := by rw [s.placeTote_frame i]
@[simp] theorem State.placeTote_pool (s : State) (i : Station) : (s.placeTote i).pool = s.pool := by rw [s.placeTote_frame i]
@[simp] theorem State.placeTote_queue (s : State) (i : Station) : (s.placeTote i).queue = s.queue := by rw [s.placeTote_frame i]
@[simp] theorem State.placeTote_jobCounter (s : State) (i : Station) : (s.placeTote i).jobCounter = s.jobCounter := by rw [s.placeTote_frame i]
@[simp] theorem State.placeTote_arbiter (s : State) (i : Station) : (s.placeTote i).arbiter = s.arbiter := by rw [s.placeTote_frame i]
@[simp] theorem State.placeTote_shuttle (s : State) (i : Station) : (s.placeTote i).shuttle = s.shuttle := by rw [s.placeTote_frame i]
@[simp] theorem State.placeTote_drive (s : State) (i : Station) : (s.placeTote i).drive = s.drive := by rw [s.placeTote_frame i]
@[simp] theorem State.placeTote_params (s : State) (i : Station) : (s.placeTote i).params = s.params := by rw [s.placeTote_frame i]
@[simp] theorem State.placeTote_attention (s : State) (i : Station) : (s.placeTote i).attention = s.attention := by rw [s.placeTote_frame i]
@[simp] theorem State.placeTote_enable (s : State) (i : Station) : (s.placeTote i).enable = s.enable := by rw [s.placeTote_frame i]
@[simp] theorem State.placeTote_supervisor (s : State) (i : Station) : (s.placeTote i).supervisor = s.supervisor := by rw [s.placeTote_frame i]
@[simp] theorem State.placeTote_dispatchDue (s : State) (i : Station) : (s.placeTote i).dispatchDue = s.dispatchDue := by rw [s.placeTote_frame i]
@[simp] theorem State.placeTote_draws (s : State) (i : Station) : (s.placeTote i).draws = s.draws := by rw [s.placeTote_frame i]
@[simp] theorem State.placeTote_pending (s : State) (i : Station) : (s.placeTote i).pending = s.pending := by rw [s.placeTote_frame i]
@[simp] theorem State.placeTote_slot (s : State) (i : Station) (k' : SlotIx) : (s.placeTote i).slot k' = s.slot k' := by simp [State.slot]

theorem State.placeFull_frame (s : State) :
    s.placeFull = { s with
      pool := s.placeFull.pool
      load := s.placeFull.load
      attention := s.placeFull.attention
      dispatchDue := s.placeFull.dispatchDue } := by
  apply State.ext_of_fields <;> (try with_reducible rfl) <;> simp only [State.placeFull] <;> simp
@[simp] theorem State.placeFull_clock (s : State) : s.placeFull.clock = s.clock := by rw [s.placeFull_frame]
@[simp] theorem State.placeFull_slots (s : State) : s.placeFull.slots = s.slots := by rw [s.placeFull_frame]
@[simp] theorem State.placeFull_arrival (s : State) : s.placeFull.arrival = s.arrival := by rw [s.placeFull_frame]
@[simp] theorem State.placeFull_tagCounter (s : State) : s.placeFull.tagCounter = s.tagCounter := by rw [s.placeFull_frame]
@[simp] theorem State.placeFull_stations (s : State) : s.placeFull.stations = s.stations := by rw [s.placeFull_frame]
@[simp] theorem State.placeFull_queue (s : State) : s.placeFull.queue = s.queue := by rw [s.placeFull_frame]
@[simp] theorem State.placeFull_jobCounter (s : State) : s.placeFull.jobCounter = s.jobCounter := by rw [s.placeFull_frame]
@[simp] theorem State.placeFull_arbiter (s : State) : s.placeFull.arbiter = s.arbiter := by rw [s.placeFull_frame]
@[simp] theorem State.placeFull_shuttle (s : State) : s.placeFull.shuttle = s.shuttle := by rw [s.placeFull_frame]
@[simp] theorem State.placeFull_drive (s : State) : s.placeFull.drive = s.drive := by rw [s.placeFull_frame]
@[simp] theorem State.placeFull_params (s : State) : s.placeFull.params = s.params := by rw [s.placeFull_frame]
@[simp] theorem State.placeFull_enable (s : State) : s.placeFull.enable = s.enable := by rw [s.placeFull_frame]
@[simp] theorem State.placeFull_supervisor (s : State) : s.placeFull.supervisor = s.supervisor := by rw [s.placeFull_frame]
@[simp] theorem State.placeFull_draws (s : State) : s.placeFull.draws = s.draws := by rw [s.placeFull_frame]
@[simp] theorem State.placeFull_pending (s : State) : s.placeFull.pending = s.pending := by rw [s.placeFull_frame]
@[simp] theorem State.placeFull_slot (s : State) (k' : SlotIx) : s.placeFull.slot k' = s.slot k' := by simp [State.slot]
@[simp] theorem State.placeFull_station (s : State) (j' : Station) : s.placeFull.station j' = s.station j' := by simp [State.station]

theorem State.placeStand_frame (s : State) :
    s.placeStand = { s with
      pool := s.placeStand.pool
      load := s.placeStand.load
      attention := s.placeStand.attention
      dispatchDue := s.placeStand.dispatchDue } := by
  apply State.ext_of_fields <;> (try with_reducible rfl) <;> simp only [State.placeStand] <;> simp
@[simp] theorem State.placeStand_clock (s : State) : s.placeStand.clock = s.clock := by rw [s.placeStand_frame]
@[simp] theorem State.placeStand_slots (s : State) : s.placeStand.slots = s.slots := by rw [s.placeStand_frame]
@[simp] theorem State.placeStand_arrival (s : State) : s.placeStand.arrival = s.arrival := by rw [s.placeStand_frame]
@[simp] theorem State.placeStand_tagCounter (s : State) : s.placeStand.tagCounter = s.tagCounter := by rw [s.placeStand_frame]
@[simp] theorem State.placeStand_stations (s : State) : s.placeStand.stations = s.stations := by rw [s.placeStand_frame]
@[simp] theorem State.placeStand_queue (s : State) : s.placeStand.queue = s.queue := by rw [s.placeStand_frame]
@[simp] theorem State.placeStand_jobCounter (s : State) : s.placeStand.jobCounter = s.jobCounter := by rw [s.placeStand_frame]
@[simp] theorem State.placeStand_arbiter (s : State) : s.placeStand.arbiter = s.arbiter := by rw [s.placeStand_frame]
@[simp] theorem State.placeStand_shuttle (s : State) : s.placeStand.shuttle = s.shuttle := by rw [s.placeStand_frame]
@[simp] theorem State.placeStand_drive (s : State) : s.placeStand.drive = s.drive := by rw [s.placeStand_frame]
@[simp] theorem State.placeStand_params (s : State) : s.placeStand.params = s.params := by rw [s.placeStand_frame]
@[simp] theorem State.placeStand_enable (s : State) : s.placeStand.enable = s.enable := by rw [s.placeStand_frame]
@[simp] theorem State.placeStand_supervisor (s : State) : s.placeStand.supervisor = s.supervisor := by rw [s.placeStand_frame]
@[simp] theorem State.placeStand_draws (s : State) : s.placeStand.draws = s.draws := by rw [s.placeStand_frame]
@[simp] theorem State.placeStand_pending (s : State) : s.placeStand.pending = s.pending := by rw [s.placeStand_frame]
@[simp] theorem State.placeStand_slot (s : State) (k' : SlotIx) : s.placeStand.slot k' = s.slot k' := by simp [State.slot]
@[simp] theorem State.placeStand_station (s : State) (j' : Station) : s.placeStand.station j' = s.station j' := by simp [State.station]

theorem State.countError_frame (s : State) (p : Port) :
    s.countError p = { s with
      stations := (s.countError p).stations
      drive := (s.countError p).drive
      attention := (s.countError p).attention } := by
  apply State.ext_of_fields <;> (try with_reducible rfl) <;> simp only [State.countError] <;> (repeat' split) <;> simp
@[simp] theorem State.countError_clock (s : State) (p : Port) : (s.countError p).clock = s.clock := by rw [s.countError_frame p]
@[simp] theorem State.countError_slots (s : State) (p : Port) : (s.countError p).slots = s.slots := by rw [s.countError_frame p]
@[simp] theorem State.countError_arrival (s : State) (p : Port) : (s.countError p).arrival = s.arrival := by rw [s.countError_frame p]
@[simp] theorem State.countError_tagCounter (s : State) (p : Port) : (s.countError p).tagCounter = s.tagCounter := by rw [s.countError_frame p]
@[simp] theorem State.countError_pool (s : State) (p : Port) : (s.countError p).pool = s.pool := by rw [s.countError_frame p]
@[simp] theorem State.countError_queue (s : State) (p : Port) : (s.countError p).queue = s.queue := by rw [s.countError_frame p]
@[simp] theorem State.countError_jobCounter (s : State) (p : Port) : (s.countError p).jobCounter = s.jobCounter := by rw [s.countError_frame p]
@[simp] theorem State.countError_arbiter (s : State) (p : Port) : (s.countError p).arbiter = s.arbiter := by rw [s.countError_frame p]
@[simp] theorem State.countError_shuttle (s : State) (p : Port) : (s.countError p).shuttle = s.shuttle := by rw [s.countError_frame p]
@[simp] theorem State.countError_load (s : State) (p : Port) : (s.countError p).load = s.load := by rw [s.countError_frame p]
@[simp] theorem State.countError_params (s : State) (p : Port) : (s.countError p).params = s.params := by rw [s.countError_frame p]
@[simp] theorem State.countError_enable (s : State) (p : Port) : (s.countError p).enable = s.enable := by rw [s.countError_frame p]
@[simp] theorem State.countError_supervisor (s : State) (p : Port) : (s.countError p).supervisor = s.supervisor := by rw [s.countError_frame p]
@[simp] theorem State.countError_dispatchDue (s : State) (p : Port) : (s.countError p).dispatchDue = s.dispatchDue := by rw [s.countError_frame p]
@[simp] theorem State.countError_draws (s : State) (p : Port) : (s.countError p).draws = s.draws := by rw [s.countError_frame p]
@[simp] theorem State.countError_pending (s : State) (p : Port) : (s.countError p).pending = s.pending := by rw [s.countError_frame p]
@[simp] theorem State.countError_slot (s : State) (p : Port) (k' : SlotIx) : (s.countError p).slot k' = s.slot k' := by simp [State.slot]

/-! ### Station records: all but the line -/

theorem State.transmit_but_tx (s : State) (i : Station) (f : Frame) (j' : Station) :
    ((s.transmit i f).station j').sent = (s.station j').sent := by
  simp only [State.transmit, State.modStation, State.setStation_station]; split <;> simp_all [StationRec.sent]
@[simp] theorem State.transmit_station_present (s : State) (i : Station) (f : Frame) (j' : Station) : ((s.transmit i f).station j').present = (s.station j').present := by
  have h := congrArg StationRec.present (s.transmit_but_tx i f j'); exact h
@[simp] theorem State.transmit_station_link (s : State) (i : Station) (f : Frame) (j' : Station) : ((s.transmit i f).station j').link = (s.station j').link := by
  have h := congrArg StationRec.link (s.transmit_but_tx i f j'); exact h
@[simp] theorem State.transmit_station_lastHeard (s : State) (i : Station) (f : Frame) (j' : Station) : ((s.transmit i f).station j').lastHeard = (s.station j').lastHeard := by
  have h := congrArg StationRec.lastHeard (s.transmit_but_tx i f j'); exact h
@[simp] theorem State.transmit_station_spindle (s : State) (i : Station) (f : Frame) (j' : Station) : ((s.transmit i f).station j').spindle = (s.station j').spindle := by
  have h := congrArg StationRec.spindle (s.transmit_but_tx i f j'); exact h
@[simp] theorem State.transmit_station_ring (s : State) (i : Station) (f : Frame) (j' : Station) : ((s.transmit i f).station j').ring = (s.station j').ring := by
  have h := congrArg StationRec.ring (s.transmit_but_tx i f j'); exact h
@[simp] theorem State.transmit_station_lastPart (s : State) (i : Station) (f : Frame) (j' : Station) : ((s.transmit i f).station j').lastPart = (s.station j').lastPart := by
  have h := congrArg StationRec.lastPart (s.transmit_but_tx i f j'); exact h
@[simp] theorem State.transmit_station_drift (s : State) (i : Station) (f : Frame) (j' : Station) : ((s.transmit i f).station j').drift = (s.station j').drift := by
  have h := congrArg StationRec.drift (s.transmit_but_tx i f j'); exact h
@[simp] theorem State.transmit_station_driftFlag (s : State) (i : Station) (f : Frame) (j' : Station) : ((s.transmit i f).station j').driftFlag = (s.station j').driftFlag := by
  have h := congrArg StationRec.driftFlag (s.transmit_but_tx i f j'); exact h
@[simp] theorem State.transmit_station_cradle (s : State) (i : Station) (f : Frame) (j' : Station) : ((s.transmit i f).station j').cradle = (s.station j').cradle := by
  have h := congrArg StationRec.cradle (s.transmit_but_tx i f j'); exact h
@[simp] theorem State.transmit_station_tote (s : State) (i : Station) (f : Frame) (j' : Station) : ((s.transmit i f).station j').tote = (s.station j').tote := by
  have h := congrArg StationRec.tote (s.transmit_but_tx i f j'); exact h
@[simp] theorem State.transmit_station_totalParts (s : State) (i : Station) (f : Frame) (j' : Station) : ((s.transmit i f).station j').totalParts = (s.station j').totalParts := by
  have h := congrArg StationRec.totalParts (s.transmit_but_tx i f j'); exact h
@[simp] theorem State.transmit_station_totalRemnant (s : State) (i : Station) (f : Frame) (j' : Station) : ((s.transmit i f).station j').totalRemnant = (s.station j').totalRemnant := by
  have h := congrArg StationRec.totalRemnant (s.transmit_but_tx i f j'); exact h
@[simp] theorem State.transmit_station_barsConsumed (s : State) (i : Station) (f : Frame) (j' : Station) : ((s.transmit i f).station j').barsConsumed = (s.station j').barsConsumed := by
  have h := congrArg StationRec.barsConsumed (s.transmit_but_tx i f j'); exact h
@[simp] theorem State.transmit_station_travel (s : State) (i : Station) (f : Frame) (j' : Station) : ((s.transmit i f).station j').travel = (s.station j').travel := by
  have h := congrArg StationRec.travel (s.transmit_but_tx i f j'); exact h
@[simp] theorem State.transmit_station_zone (s : State) (i : Station) (f : Frame) (j' : Station) : ((s.transmit i f).station j').zone = (s.station j').zone := by
  have h := congrArg StationRec.zone (s.transmit_but_tx i f j'); exact h
@[simp] theorem State.transmit_station_handoff (s : State) (i : Station) (f : Frame) (j' : Station) : ((s.transmit i f).station j').handoff = (s.station j').handoff := by
  have h := congrArg StationRec.handoff (s.transmit_but_tx i f j'); exact h
@[simp] theorem State.transmit_station_errors (s : State) (i : Station) (f : Frame) (j' : Station) : ((s.transmit i f).station j').errors = (s.station j').errors := by
  have h := congrArg StationRec.errors (s.transmit_but_tx i f j'); exact h
@[simp] theorem State.transmit_station_rx (s : State) (i : Station) (f : Frame) (j' : Station) : ((s.transmit i f).station j').rx = (s.station j').rx := by
  have h := congrArg StationRec.rx (s.transmit_but_tx i f j'); exact h

theorem State.notify_but_tx (s : State) (i : Station) (f : Frame) (j' : Station) :
    ((s.notify i f).station j').sent = (s.station j').sent := by
  simp only [State.notify]; split <;> simp [s.transmit_but_tx]
@[simp] theorem State.notify_station_present (s : State) (i : Station) (f : Frame) (j' : Station) : ((s.notify i f).station j').present = (s.station j').present := by
  have h := congrArg StationRec.present (s.notify_but_tx i f j'); exact h
@[simp] theorem State.notify_station_link (s : State) (i : Station) (f : Frame) (j' : Station) : ((s.notify i f).station j').link = (s.station j').link := by
  have h := congrArg StationRec.link (s.notify_but_tx i f j'); exact h
@[simp] theorem State.notify_station_lastHeard (s : State) (i : Station) (f : Frame) (j' : Station) : ((s.notify i f).station j').lastHeard = (s.station j').lastHeard := by
  have h := congrArg StationRec.lastHeard (s.notify_but_tx i f j'); exact h
@[simp] theorem State.notify_station_spindle (s : State) (i : Station) (f : Frame) (j' : Station) : ((s.notify i f).station j').spindle = (s.station j').spindle := by
  have h := congrArg StationRec.spindle (s.notify_but_tx i f j'); exact h
@[simp] theorem State.notify_station_ring (s : State) (i : Station) (f : Frame) (j' : Station) : ((s.notify i f).station j').ring = (s.station j').ring := by
  have h := congrArg StationRec.ring (s.notify_but_tx i f j'); exact h
@[simp] theorem State.notify_station_lastPart (s : State) (i : Station) (f : Frame) (j' : Station) : ((s.notify i f).station j').lastPart = (s.station j').lastPart := by
  have h := congrArg StationRec.lastPart (s.notify_but_tx i f j'); exact h
@[simp] theorem State.notify_station_drift (s : State) (i : Station) (f : Frame) (j' : Station) : ((s.notify i f).station j').drift = (s.station j').drift := by
  have h := congrArg StationRec.drift (s.notify_but_tx i f j'); exact h
@[simp] theorem State.notify_station_driftFlag (s : State) (i : Station) (f : Frame) (j' : Station) : ((s.notify i f).station j').driftFlag = (s.station j').driftFlag := by
  have h := congrArg StationRec.driftFlag (s.notify_but_tx i f j'); exact h
@[simp] theorem State.notify_station_cradle (s : State) (i : Station) (f : Frame) (j' : Station) : ((s.notify i f).station j').cradle = (s.station j').cradle := by
  have h := congrArg StationRec.cradle (s.notify_but_tx i f j'); exact h
@[simp] theorem State.notify_station_tote (s : State) (i : Station) (f : Frame) (j' : Station) : ((s.notify i f).station j').tote = (s.station j').tote := by
  have h := congrArg StationRec.tote (s.notify_but_tx i f j'); exact h
@[simp] theorem State.notify_station_totalParts (s : State) (i : Station) (f : Frame) (j' : Station) : ((s.notify i f).station j').totalParts = (s.station j').totalParts := by
  have h := congrArg StationRec.totalParts (s.notify_but_tx i f j'); exact h
@[simp] theorem State.notify_station_totalRemnant (s : State) (i : Station) (f : Frame) (j' : Station) : ((s.notify i f).station j').totalRemnant = (s.station j').totalRemnant := by
  have h := congrArg StationRec.totalRemnant (s.notify_but_tx i f j'); exact h
@[simp] theorem State.notify_station_barsConsumed (s : State) (i : Station) (f : Frame) (j' : Station) : ((s.notify i f).station j').barsConsumed = (s.station j').barsConsumed := by
  have h := congrArg StationRec.barsConsumed (s.notify_but_tx i f j'); exact h
@[simp] theorem State.notify_station_travel (s : State) (i : Station) (f : Frame) (j' : Station) : ((s.notify i f).station j').travel = (s.station j').travel := by
  have h := congrArg StationRec.travel (s.notify_but_tx i f j'); exact h
@[simp] theorem State.notify_station_zone (s : State) (i : Station) (f : Frame) (j' : Station) : ((s.notify i f).station j').zone = (s.station j').zone := by
  have h := congrArg StationRec.zone (s.notify_but_tx i f j'); exact h
@[simp] theorem State.notify_station_handoff (s : State) (i : Station) (f : Frame) (j' : Station) : ((s.notify i f).station j').handoff = (s.station j').handoff := by
  have h := congrArg StationRec.handoff (s.notify_but_tx i f j'); exact h
@[simp] theorem State.notify_station_errors (s : State) (i : Station) (f : Frame) (j' : Station) : ((s.notify i f).station j').errors = (s.station j').errors := by
  have h := congrArg StationRec.errors (s.notify_but_tx i f j'); exact h
@[simp] theorem State.notify_station_rx (s : State) (i : Station) (f : Frame) (j' : Station) : ((s.notify i f).station j').rx = (s.station j').rx := by
  have h := congrArg StationRec.rx (s.notify_but_tx i f j'); exact h

theorem State.dispatch_but_tx (s : State) (j : Job) (j' : Station) :
    ((s.dispatch j).station j').sent = (s.station j').sent := by
  simp only [State.dispatch, State.startJob_station, State.notify_but_tx]; simp
@[simp] theorem State.dispatch_station_present (s : State) (j : Job) (j' : Station) : ((s.dispatch j).station j').present = (s.station j').present := by
  have h := congrArg StationRec.present (s.dispatch_but_tx j j'); exact h
@[simp] theorem State.dispatch_station_link (s : State) (j : Job) (j' : Station) : ((s.dispatch j).station j').link = (s.station j').link := by
  have h := congrArg StationRec.link (s.dispatch_but_tx j j'); exact h
@[simp] theorem State.dispatch_station_lastHeard (s : State) (j : Job) (j' : Station) : ((s.dispatch j).station j').lastHeard = (s.station j').lastHeard := by
  have h := congrArg StationRec.lastHeard (s.dispatch_but_tx j j'); exact h
@[simp] theorem State.dispatch_station_spindle (s : State) (j : Job) (j' : Station) : ((s.dispatch j).station j').spindle = (s.station j').spindle := by
  have h := congrArg StationRec.spindle (s.dispatch_but_tx j j'); exact h
@[simp] theorem State.dispatch_station_ring (s : State) (j : Job) (j' : Station) : ((s.dispatch j).station j').ring = (s.station j').ring := by
  have h := congrArg StationRec.ring (s.dispatch_but_tx j j'); exact h
@[simp] theorem State.dispatch_station_lastPart (s : State) (j : Job) (j' : Station) : ((s.dispatch j).station j').lastPart = (s.station j').lastPart := by
  have h := congrArg StationRec.lastPart (s.dispatch_but_tx j j'); exact h
@[simp] theorem State.dispatch_station_drift (s : State) (j : Job) (j' : Station) : ((s.dispatch j).station j').drift = (s.station j').drift := by
  have h := congrArg StationRec.drift (s.dispatch_but_tx j j'); exact h
@[simp] theorem State.dispatch_station_driftFlag (s : State) (j : Job) (j' : Station) : ((s.dispatch j).station j').driftFlag = (s.station j').driftFlag := by
  have h := congrArg StationRec.driftFlag (s.dispatch_but_tx j j'); exact h
@[simp] theorem State.dispatch_station_cradle (s : State) (j : Job) (j' : Station) : ((s.dispatch j).station j').cradle = (s.station j').cradle := by
  have h := congrArg StationRec.cradle (s.dispatch_but_tx j j'); exact h
@[simp] theorem State.dispatch_station_tote (s : State) (j : Job) (j' : Station) : ((s.dispatch j).station j').tote = (s.station j').tote := by
  have h := congrArg StationRec.tote (s.dispatch_but_tx j j'); exact h
@[simp] theorem State.dispatch_station_totalParts (s : State) (j : Job) (j' : Station) : ((s.dispatch j).station j').totalParts = (s.station j').totalParts := by
  have h := congrArg StationRec.totalParts (s.dispatch_but_tx j j'); exact h
@[simp] theorem State.dispatch_station_totalRemnant (s : State) (j : Job) (j' : Station) : ((s.dispatch j).station j').totalRemnant = (s.station j').totalRemnant := by
  have h := congrArg StationRec.totalRemnant (s.dispatch_but_tx j j'); exact h
@[simp] theorem State.dispatch_station_barsConsumed (s : State) (j : Job) (j' : Station) : ((s.dispatch j).station j').barsConsumed = (s.station j').barsConsumed := by
  have h := congrArg StationRec.barsConsumed (s.dispatch_but_tx j j'); exact h
@[simp] theorem State.dispatch_station_travel (s : State) (j : Job) (j' : Station) : ((s.dispatch j).station j').travel = (s.station j').travel := by
  have h := congrArg StationRec.travel (s.dispatch_but_tx j j'); exact h
@[simp] theorem State.dispatch_station_zone (s : State) (j : Job) (j' : Station) : ((s.dispatch j).station j').zone = (s.station j').zone := by
  have h := congrArg StationRec.zone (s.dispatch_but_tx j j'); exact h
@[simp] theorem State.dispatch_station_handoff (s : State) (j : Job) (j' : Station) : ((s.dispatch j).station j').handoff = (s.station j').handoff := by
  have h := congrArg StationRec.handoff (s.dispatch_but_tx j j'); exact h
@[simp] theorem State.dispatch_station_errors (s : State) (j : Job) (j' : Station) : ((s.dispatch j).station j').errors = (s.station j').errors := by
  have h := congrArg StationRec.errors (s.dispatch_but_tx j j'); exact h
@[simp] theorem State.dispatch_station_rx (s : State) (j : Job) (j' : Station) : ((s.dispatch j).station j').rx = (s.station j').rx := by
  have h := congrArg StationRec.rx (s.dispatch_but_tx j j'); exact h

theorem State.evaluate_but_tx (s : State) (j' : Station) :
    (s.evaluate.station j').sent = (s.station j').sent := by
  simp only [State.evaluate]; repeat' split
  all_goals simp [s.dispatch_but_tx]
@[simp] theorem State.evaluate_station_present (s : State) (j' : Station) : (s.evaluate.station j').present = (s.station j').present := by
  have h := congrArg StationRec.present (s.evaluate_but_tx j'); exact h
@[simp] theorem State.evaluate_station_link (s : State) (j' : Station) : (s.evaluate.station j').link = (s.station j').link := by
  have h := congrArg StationRec.link (s.evaluate_but_tx j'); exact h
@[simp] theorem State.evaluate_station_lastHeard (s : State) (j' : Station) : (s.evaluate.station j').lastHeard = (s.station j').lastHeard := by
  have h := congrArg StationRec.lastHeard (s.evaluate_but_tx j'); exact h
@[simp] theorem State.evaluate_station_spindle (s : State) (j' : Station) : (s.evaluate.station j').spindle = (s.station j').spindle := by
  have h := congrArg StationRec.spindle (s.evaluate_but_tx j'); exact h
@[simp] theorem State.evaluate_station_ring (s : State) (j' : Station) : (s.evaluate.station j').ring = (s.station j').ring := by
  have h := congrArg StationRec.ring (s.evaluate_but_tx j'); exact h
@[simp] theorem State.evaluate_station_lastPart (s : State) (j' : Station) : (s.evaluate.station j').lastPart = (s.station j').lastPart := by
  have h := congrArg StationRec.lastPart (s.evaluate_but_tx j'); exact h
@[simp] theorem State.evaluate_station_drift (s : State) (j' : Station) : (s.evaluate.station j').drift = (s.station j').drift := by
  have h := congrArg StationRec.drift (s.evaluate_but_tx j'); exact h
@[simp] theorem State.evaluate_station_driftFlag (s : State) (j' : Station) : (s.evaluate.station j').driftFlag = (s.station j').driftFlag := by
  have h := congrArg StationRec.driftFlag (s.evaluate_but_tx j'); exact h
@[simp] theorem State.evaluate_station_cradle (s : State) (j' : Station) : (s.evaluate.station j').cradle = (s.station j').cradle := by
  have h := congrArg StationRec.cradle (s.evaluate_but_tx j'); exact h
@[simp] theorem State.evaluate_station_tote (s : State) (j' : Station) : (s.evaluate.station j').tote = (s.station j').tote := by
  have h := congrArg StationRec.tote (s.evaluate_but_tx j'); exact h
@[simp] theorem State.evaluate_station_totalParts (s : State) (j' : Station) : (s.evaluate.station j').totalParts = (s.station j').totalParts := by
  have h := congrArg StationRec.totalParts (s.evaluate_but_tx j'); exact h
@[simp] theorem State.evaluate_station_totalRemnant (s : State) (j' : Station) : (s.evaluate.station j').totalRemnant = (s.station j').totalRemnant := by
  have h := congrArg StationRec.totalRemnant (s.evaluate_but_tx j'); exact h
@[simp] theorem State.evaluate_station_barsConsumed (s : State) (j' : Station) : (s.evaluate.station j').barsConsumed = (s.station j').barsConsumed := by
  have h := congrArg StationRec.barsConsumed (s.evaluate_but_tx j'); exact h
@[simp] theorem State.evaluate_station_travel (s : State) (j' : Station) : (s.evaluate.station j').travel = (s.station j').travel := by
  have h := congrArg StationRec.travel (s.evaluate_but_tx j'); exact h
@[simp] theorem State.evaluate_station_zone (s : State) (j' : Station) : (s.evaluate.station j').zone = (s.station j').zone := by
  have h := congrArg StationRec.zone (s.evaluate_but_tx j'); exact h
@[simp] theorem State.evaluate_station_handoff (s : State) (j' : Station) : (s.evaluate.station j').handoff = (s.station j').handoff := by
  have h := congrArg StationRec.handoff (s.evaluate_but_tx j'); exact h
@[simp] theorem State.evaluate_station_errors (s : State) (j' : Station) : (s.evaluate.station j').errors = (s.station j').errors := by
  have h := congrArg StationRec.errors (s.evaluate_but_tx j'); exact h
@[simp] theorem State.evaluate_station_rx (s : State) (j' : Station) : (s.evaluate.station j').rx = (s.station j').rx := by
  have h := congrArg StationRec.rx (s.evaluate_but_tx j'); exact h

theorem State.settle_but_tx (s : State) (j' : Station) :
    (s.settle.station j').sent = (s.station j').sent := by
  simp only [State.settle]; split
  · rw [State.evaluate_but_tx]; rfl
  · rfl
@[simp] theorem State.settle_station_present (s : State) (j' : Station) : (s.settle.station j').present = (s.station j').present := by
  have h := congrArg StationRec.present (s.settle_but_tx j'); exact h
@[simp] theorem State.settle_station_link (s : State) (j' : Station) : (s.settle.station j').link = (s.station j').link := by
  have h := congrArg StationRec.link (s.settle_but_tx j'); exact h
@[simp] theorem State.settle_station_lastHeard (s : State) (j' : Station) : (s.settle.station j').lastHeard = (s.station j').lastHeard := by
  have h := congrArg StationRec.lastHeard (s.settle_but_tx j'); exact h
@[simp] theorem State.settle_station_spindle (s : State) (j' : Station) : (s.settle.station j').spindle = (s.station j').spindle := by
  have h := congrArg StationRec.spindle (s.settle_but_tx j'); exact h
@[simp] theorem State.settle_station_ring (s : State) (j' : Station) : (s.settle.station j').ring = (s.station j').ring := by
  have h := congrArg StationRec.ring (s.settle_but_tx j'); exact h
@[simp] theorem State.settle_station_lastPart (s : State) (j' : Station) : (s.settle.station j').lastPart = (s.station j').lastPart := by
  have h := congrArg StationRec.lastPart (s.settle_but_tx j'); exact h
@[simp] theorem State.settle_station_drift (s : State) (j' : Station) : (s.settle.station j').drift = (s.station j').drift := by
  have h := congrArg StationRec.drift (s.settle_but_tx j'); exact h
@[simp] theorem State.settle_station_driftFlag (s : State) (j' : Station) : (s.settle.station j').driftFlag = (s.station j').driftFlag := by
  have h := congrArg StationRec.driftFlag (s.settle_but_tx j'); exact h
@[simp] theorem State.settle_station_cradle (s : State) (j' : Station) : (s.settle.station j').cradle = (s.station j').cradle := by
  have h := congrArg StationRec.cradle (s.settle_but_tx j'); exact h
@[simp] theorem State.settle_station_tote (s : State) (j' : Station) : (s.settle.station j').tote = (s.station j').tote := by
  have h := congrArg StationRec.tote (s.settle_but_tx j'); exact h
@[simp] theorem State.settle_station_totalParts (s : State) (j' : Station) : (s.settle.station j').totalParts = (s.station j').totalParts := by
  have h := congrArg StationRec.totalParts (s.settle_but_tx j'); exact h
@[simp] theorem State.settle_station_totalRemnant (s : State) (j' : Station) : (s.settle.station j').totalRemnant = (s.station j').totalRemnant := by
  have h := congrArg StationRec.totalRemnant (s.settle_but_tx j'); exact h
@[simp] theorem State.settle_station_barsConsumed (s : State) (j' : Station) : (s.settle.station j').barsConsumed = (s.station j').barsConsumed := by
  have h := congrArg StationRec.barsConsumed (s.settle_but_tx j'); exact h
@[simp] theorem State.settle_station_travel (s : State) (j' : Station) : (s.settle.station j').travel = (s.station j').travel := by
  have h := congrArg StationRec.travel (s.settle_but_tx j'); exact h
@[simp] theorem State.settle_station_zone (s : State) (j' : Station) : (s.settle.station j').zone = (s.station j').zone := by
  have h := congrArg StationRec.zone (s.settle_but_tx j'); exact h
@[simp] theorem State.settle_station_handoff (s : State) (j' : Station) : (s.settle.station j').handoff = (s.station j').handoff := by
  have h := congrArg StationRec.handoff (s.settle_but_tx j'); exact h
@[simp] theorem State.settle_station_errors (s : State) (j' : Station) : (s.settle.station j').errors = (s.station j').errors := by
  have h := congrArg StationRec.errors (s.settle_but_tx j'); exact h
@[simp] theorem State.settle_station_rx (s : State) (j' : Station) : (s.settle.station j').rx = (s.station j').rx := by
  have h := congrArg StationRec.rx (s.settle_but_tx j'); exact h

end Sys2Proof.Machine
end

