-- ==== Sys2Proof/Laws/Attention.lean ====
section
/-! SUPPORT. The attention set as a list in read order: the order tells records apart by cause and scope, and putting a
record at its place keeps the order and finds the record again. -/

namespace Sys2Proof.Machine

/-- The read order tells causes and scopes apart (R172). -/
theorem rank_eq_iff (a b : AttRec) : a.rank = b.rank ↔ a.cause = b.cause ∧ a.scope = b.scope := by
  constructor
  · intro h
    have hn : ∀ sc : Scope, sc.num < 16 := by
      intro sc; cases sc <;> simp [Scope.num, stationNum]; omega
    have ha := hn a.scope
    have hb := hn b.scope
    simp only [AttRec.rank] at h
    have hp : a.cause.priority = b.cause.priority := by omega
    have hs : a.scope.num = b.scope.num := by omega
    constructor
    · revert hp; cases a.cause <;> cases b.cause <;> simp [Cause.priority]
    · revert hs
      cases a.scope <;> cases b.scope <;> simp +contextual [Scope.num, stationNum, Fin.val_inj]
  · rintro ⟨h1, h2⟩; simp [AttRec.rank, h1, h2]

theorem isOf_iff (c : Cause) (sc : Scope) (r : AttRec) : AttRec.isOf c sc r = true ↔ r.cause = c ∧ r.scope = sc := by
  simp [AttRec.isOf]

/-- What stands in the set after a record is put in place: the record, and records that stood there. -/
theorem mem_attInsert (r x : AttRec) (l : List AttRec) (h : x ∈ attInsert r l) : x = r ∨ x ∈ l := by
  induction l with
  | nil => simpa [attInsert] using h
  | cons y ys ih =>
    simp only [attInsert] at h
    split at h
    · simpa using h
    · split at h
      · simp only [List.mem_cons] at h ⊢; rcases h with h | h
        · exact .inl h
        · exact .inr (.inr h)
      · simp only [List.mem_cons] at h ⊢; rcases h with h | h
        · exact .inr (.inl h)
        · rcases ih h with h | h
          · exact .inl h
          · exact .inr (.inr h)

/-- Putting a record at its place keeps the read order (R172). -/
theorem attInsert_ordered (r : AttRec) (l : List AttRec) (h : l.Pairwise fun a b => a.rank < b.rank) :
    (attInsert r l).Pairwise fun a b => a.rank < b.rank := by
  induction l with
  | nil => simp [attInsert]
  | cons y ys ih =>
    rw [List.pairwise_cons] at h
    simp only [attInsert]
    split
    · rename_i hlt
      refine List.pairwise_cons.mpr ⟨fun x hx => ?_, List.pairwise_cons.mpr h⟩
      rcases List.mem_cons.mp hx with rfl | hx
      · exact hlt
      · have := h.1 x hx; omega
    · split
      · rename_i heq
        exact List.pairwise_cons.mpr ⟨fun x hx => by have := h.1 x hx; omega, h.2⟩
      · rename_i h1 h2
        refine List.pairwise_cons.mpr ⟨fun x hx => ?_, ih h.2⟩
        rcases mem_attInsert r x ys hx with rfl | hx
        · omega
        · exact h.1 x hx

/-- A record put in place is the one found for its cause and scope. -/
theorem find_attInsert_same (r : AttRec) (l : List AttRec) :
    (attInsert r l).find? (AttRec.isOf r.cause r.scope) = some r := by
  induction l with
  | nil => simp [attInsert, AttRec.isOf]
  | cons y ys ih =>
    simp only [attInsert]
    split
    · simp [AttRec.isOf]
    · split
      · simp [AttRec.isOf]
      · rename_i h1 h2
        rw [List.find?_cons_of_neg, ih]
        rw [isOf_iff]; intro h
        exact h2 ((rank_eq_iff r y).mpr ⟨h.1.symm, h.2.symm⟩)

/-- Putting a record in place does not bear on the records of other causes and scopes. -/
theorem find_attInsert_other (r : AttRec) (c : Cause) (sc : Scope) (l : List AttRec) (h : ¬(r.cause = c ∧ r.scope = sc)) :
    (attInsert r l).find? (AttRec.isOf c sc) = l.find? (AttRec.isOf c sc) := by
  have hr : ¬AttRec.isOf c sc r = true := by rw [isOf_iff]; exact h
  induction l with
  | nil => simp [attInsert, hr]
  | cons y ys ih =>
    simp only [attInsert]
    split
    · rw [List.find?_cons_of_neg hr]
    · split
      · rename_i heq
        have hy : ¬AttRec.isOf c sc y = true := by
          rw [isOf_iff]; intro h2
          have := (rank_eq_iff r y).mp heq
          exact h ⟨this.1.trans h2.1, this.2.trans h2.2⟩
        rw [List.find?_cons_of_neg hr, List.find?_cons_of_neg hy]
      · by_cases hy : AttRec.isOf c sc y = true
        · rw [List.find?_cons_of_pos hy, List.find?_cons_of_pos hy]
        · rw [List.find?_cons_of_neg hy, List.find?_cons_of_neg hy, ih]

end Sys2Proof.Machine
end

