-- ==== Sys2Proof/Laws/Expiry.lean ====
section
/-! SUPPORT. Runs of expiries: what holds of a state and is kept by one link timeout, or by one reservation hold, is kept by
a run of them, and so by a new link timeout or reservation hold time (R49, R51). -/

namespace Sys2Proof.Machine

@[simp] theorem State.expireLinks_nil (s : State) : s.expireLinks [] = s := rfl
@[simp] theorem State.expireLinks_cons (s : State) (i : Station) (is : List Station) :
    s.expireLinks (i :: is) = (s.expireLink i).expireLinks is := rfl
@[simp] theorem State.expireResHolds_nil (s : State) : s.expireResHolds [] = s := rfl
@[simp] theorem State.expireResHolds_cons (s : State) (i : Station) (is : List Station) :
    s.expireResHolds (i :: is) = (s.expireResHold i).expireResHolds is := rfl

/-- What one link timeout keeps, any run of them keeps. -/
theorem State.expireLinks_keeps (P : State → Prop) (h : ∀ s i, P s → P (s.expireLink i)) (is : List Station) :
    ∀ s, P s → P (s.expireLinks is) := by
  induction is with
  | nil => exact fun _ hs => hs
  | cons i is ih => exact fun s hs => ih _ (h s i hs)

/-- What one reservation hold keeps, any run of them keeps. -/
theorem State.expireResHolds_keeps (P : State → Prop) (h : ∀ s i, P s → P (s.expireResHold i)) (is : List Station) :
    ∀ s, P s → P (s.expireResHolds is) := by
  induction is with
  | nil => exact fun _ hs => hs
  | cons i is ih => exact fun s hs => ih _ (h s i hs)

/-- What one link timeout keeps, a changed link timeout keeps. -/
theorem State.linksDueNow_keeps (P : State → Prop) (h : ∀ s i, P s → P (s.expireLink i)) (s : State) (hs : P s) :
    P s.linksDueNow :=
  State.expireLinks_keeps P h _ s hs

/-- What one reservation hold and the count of free values keep, a changed reservation hold time keeps. -/
theorem State.resHoldsDueNow_keeps (P : State → Prop) (h : ∀ s i, P s → P (s.expireResHold i))
    (hd : ∀ s n, P s → P { s with draws := n }) (s : State) (hs : P s) : P s.resHoldsDueNow :=
  State.expireResHolds_keeps P h _ _ (hd s _ hs)

/-- No station silent for longer: a changed link timeout does nothing. -/
theorem State.linksDueNow_none (s : State) (h : ∀ i, s.linkTimeoutDue i = false) : s.linksDueNow = s := by
  have h1 : allStations.filter s.linkTimeoutDue = [] := by simp [List.filter_eq_nil_iff, h]
  simp [State.linksDueNow, h1]

/-- No stay in LOST as long: a changed reservation hold time does nothing. -/
theorem State.resHoldsDueNow_none (s : State) (h : ∀ i, s.resHoldDue i = false) : s.resHoldsDueNow = s := by
  have h1 : allStations.filter s.resHoldDue = [] := by simp [List.filter_eq_nil_iff, h]
  simp [State.resHoldsDueNow, h1, freelyOrdered]

end Sys2Proof.Machine
end

