-- ==== Sys2Proof/Laws/Operands.lean ====
section
/-! SUPPORT. What the operand forms and the list operations can do: numbers of slots and stations, the first element by
a key, expiries in a free order, and the checks of a write transaction. -/

namespace Sys2Proof.Machine

/-! ### Numbers of slots and stations -/

theorem slotOfNum_outside (n : Nat) (h : n < 1 ∨ 64 < n) : slotOfNum n = none := by
  unfold slotOfNum; rw [dif_neg]; omega

@[simp] theorem slotOfNum_number (k : SlotIx) : slotOfNum (k.val + 1) = some k := by
  unfold slotOfNum; rw [dif_pos (by omega)]; simp

theorem stationOfNum_outside (n : Nat) (h : n < 1 ∨ 12 < n) : stationOfNum n = none := by
  unfold stationOfNum; rw [dif_neg]; omega

@[simp] theorem stationOfNum_number (i : Station) : stationOfNum (i.val + 1) = some i := by
  unfold stationOfNum; rw [dif_pos (by omega)]; simp

/-! ### The check of LEN -/

/-- The check of LEN fails exactly when LEN is no permitted value or too few payload bytes arrived. -/
theorem lenOk_false (w : Write) (ls : List Nat) :
    w.lenOk ls = false ↔ w.len.toNat ∉ ls ∨ w.bytes.length < w.len.toNat := by
  simp only [Write.lenOk, Bool.and_eq_false_iff, decide_eq_false_iff_not, Nat.not_le]
  simp

/-- The check of LEN passes exactly when LEN is permitted and that many payload bytes arrived. -/
theorem lenOk_true (w : Write) (ls : List Nat) :
    w.lenOk ls = true ↔ w.len.toNat ∈ ls ∧ w.len.toNat ≤ w.bytes.length := by
  simp [Write.lenOk]

/-! ### The first by a key -/

theorem firstBy_eq_none {α : Type} (key : α → List Nat) (l : List α) : firstBy key l = none ↔ l = [] := by
  cases l with
  | nil => simp [firstBy]
  | cons x xs =>
    simp only [firstBy, reduceCtorEq, iff_false]
    split
    · simp
    · split <;> simp

theorem mem_of_firstBy {α : Type} (key : α → List Nat) (l : List α) (y : α) (h : firstBy key l = some y) : y ∈ l := by
  induction l generalizing y with
  | nil => simp [firstBy] at h
  | cons x xs ih =>
    simp only [firstBy] at h
    split at h
    · simp at h; simp [h]
    · rename_i z hz
      split at h <;> simp at h <;> subst h
      · exact List.mem_cons_of_mem _ (ih _ hz)
      · simp

theorem lexLt_asymm : ∀ a b : List Nat, lexLt a b = true → lexLt b a = false
  | [], _, h => by simp [lexLt] at h
  | _ :: _, [], h => by simp [lexLt] at h
  | x :: xs, y :: ys, h => by
    simp only [lexLt, Bool.or_eq_true, Bool.and_eq_true, decide_eq_true_eq, Bool.or_eq_false_iff,
      Bool.and_eq_false_imp, decide_eq_false_iff_not] at h ⊢
    rcases h with h | ⟨h, h2⟩
    · exact ⟨by omega, fun h3 => absurd h3 (by omega)⟩
    · exact ⟨by omega, fun _ => lexLt_asymm xs ys h2⟩

/-- Not less is transitive among keys of one length. -/
theorem lexLt_false_trans : ∀ a b c : List Nat, a.length = b.length → b.length = c.length →
    lexLt a b = false → lexLt b c = false → lexLt a c = false
  | [], _, _, _, _, _, _ => by simp [lexLt]
  | x :: xs, y :: ys, z :: zs, h1, h2, h3, h4 => by
    simp only [lexLt, Bool.or_eq_false_iff, Bool.and_eq_false_imp, decide_eq_true_eq, decide_eq_false_iff_not] at h3 h4 ⊢
    refine ⟨by omega, fun h => ?_⟩
    exact lexLt_false_trans xs ys zs (by simpa using h1) (by simpa using h2) (h3.2 (by omega)) (h4.2 (by omega))
  | _ :: _, [], _, h1, _, _, _ => by simp at h1
  | _ :: _, _ :: _, [], _, h2, _, _ => by simp at h2

/-- The first by a key has no element before it, where the keys have one length (R105). -/
theorem firstBy_least {α : Type} (key : α → List Nat) (n : Nat) (hk : ∀ a, (key a).length = n) (l : List α) (y : α)
    (h : firstBy key l = some y) : ∀ q ∈ l, lexLt (key q) (key y) = false := by
  have irrefl : ∀ a : List Nat, lexLt a a = false := by
    intro a; cases h : lexLt a a
    · rfl
    · exact (lexLt_asymm a a h).symm ▸ h ▸ rfl
  induction l generalizing y with
  | nil => simp [firstBy] at h
  | cons x xs ih =>
    simp only [firstBy] at h
    split at h
    · rename_i hn
      rw [firstBy_eq_none] at hn
      simp at h; subst h; subst hn
      simp [irrefl]
    · rename_i z hz
      split at h <;> rename_i hlt <;> simp at h <;> subst h
      · intro q hq
        rcases List.mem_cons.mp hq with rfl | hq
        · exact lexLt_asymm _ _ hlt
        · exact ih _ hz q hq
      · intro q hq
        rcases List.mem_cons.mp hq with rfl | hq
        · exact irrefl _
        · exact lexLt_false_trans _ _ _ (by simp [hk]) (by simp [hk]) (ih _ hz q hq) (by simpa using hlt)

/-- The keys of the dispatch order have one length. -/
theorem State.dispatchKey_length (s : State) (j : Job) : (s.dispatchKey j).length = 4 := rfl

/-! ### Expiries in a free order -/

theorem insertAt_perm {α : Type} (c : α) : ∀ (n : Nat) (l : List α), (insertAt c n l).Perm (c :: l)
  | 0, l => by simp [insertAt]
  | n + 1, [] => by simp [insertAt]
  | n + 1, x :: xs => by
    simp only [insertAt]
    exact (List.Perm.cons x (insertAt_perm c n xs)).trans (List.Perm.swap c x xs)

/-- Whatever the free values, the order is one of the same commands. -/
theorem freelyOrdered_perm {α : Type} (l : List α) (d : Nat) : (freelyOrdered d l).2.Perm l := by
  induction l with
  | nil => simp [freelyOrdered]
  | cons c cs ih =>
    simp only [freelyOrdered]
    split
    · rename_i h; rw [h] at ih; simp_all
    · rename_i h; rw [h] at ih; exact (insertAt_perm _ _ _).trans (List.Perm.cons _ ih)

/-- A tick empties the line of every station and changes nothing else of its record. -/
theorem State.advance_stations (s : State) :
    s.advance.stations = s.stations.map fun r => { r with tx := [] } := by
  ext i hi; simp [State.advance, State.station, StationRec.sent]

/-- The draw count and the queue do not bear on what is due. -/
theorem State.tick_expiriesDue (s : State) : s.tick.expiriesDue = s.advance.expiriesDue := rfl

end Sys2Proof.Machine
end

