-- ==== Sys2Proof/Laws/Jobs.lean ====
section
/-! SUPPORT. Jobs, offers and the end of an event: when there is no job of a kind, what a posting and an offer can do, and
when the dispatch evaluation at the end of an event does nothing. -/

namespace Sys2Proof.Machine

/-! ### The end of an event (R106) -/

/-- An event that did not inform the dispatcher ends as it is. -/
theorem State.settle_idle (s : State) (h : s.dispatchDue = false) : s.settle = s := by simp [State.settle, h]

/-- In COMMISSION the evaluation does nothing. -/
theorem State.settle_commission (s : State) (h : s.supervisor.mode = .commission) :
    s.settle = { s with dispatchDue := false } := by
  simp only [State.settle]; split
  · simp [State.evaluate, h]
  · rename_i h2; cases s; simp_all

/-- With the shuttle not IDLE the evaluation does nothing. -/
theorem State.settle_busy (s : State) (h : s.shuttle ≠ .idle) : s.settle = { s with dispatchDue := false } := by
  simp only [State.settle]; split
  · simp [State.evaluate, h]
  · rename_i h2; cases s; simp_all

/-! ### Jobs of a station -/

/-- Without a job of the station and kind, queued or current, there is none. -/
theorem State.hasJob_false (s : State) (i : Station) (b : Bool) (h : ∀ j ∈ s.jobs, ¬(j.station = i ∧ j.isBar = b)) :
    s.hasJob b i = false := by
  have h1 : s.queuedOf b i = none := by
    simp only [State.queuedOf, List.find?_eq_none]
    intro j hj; have := h j (by simp [State.jobs, hj]); simpa [jobIs] using this
  have h2 : s.currentOf b i = none := by
    simp only [State.currentOf]
    cases hc : s.current? with
    | none => rfl
    | some c => have := h c.job (by simp [State.jobs, hc]); simp [jobIs]; intro h3 h4; exact this ⟨h3, h4⟩
  simp [State.hasJob, h1, h2]

/-- A station has a job of the kind exactly when one is among the jobs that exist. -/
theorem State.hasJob_true (s : State) (i : Station) (b : Bool) (h : s.hasJob b i = true) :
    ∃ j ∈ s.jobs, j.station = i ∧ j.isBar = b := by
  refine Classical.byContradiction fun hn => ?_
  have := s.hasJob_false i b fun j hj hh => hn ⟨j, hj, hh⟩
  simp [this] at h

/-- A queued job of the station and kind is found in the queue. -/
theorem State.queuedOf_some (s : State) (i : Station) (b : Bool) (j : Job) (h : s.queuedOf b i = some j) :
    j ∈ s.queue ∧ j.station = i ∧ j.isBar = b := by
  have h1 := List.mem_of_find?_eq_some h
  have h2 := List.find?_some h
  simp only [jobIs, Bool.and_eq_true, decide_eq_true_eq, beq_iff_eq] at h2
  exact ⟨h1, h2⟩

/-- A tote job posted: it stands at the tail with a fresh number, the pool conditions are tested and the dispatcher is
informed (R94, R95). -/
theorem State.post_tote (s : State) (k : JobKind) (c : Nat) (i : Station) (hk : k ≠ .bar) :
    s.post k c i = ({ s with
      queue := s.queue ++ [s.newJob k c i]
      jobCounter := s.freshNumber
      dispatchDue := true } : State).testPool := by
  simp only [State.post, if_neg hk]; rfl

/-- The fresh number does not depend on the station records. -/
@[simp] theorem State.setStation_freshNumber (s : State) (i : Station) (r : StationRec) :
    (s.setStation i r).freshNumber = s.freshNumber := by
  have : ∀ n k, (s.setStation i r).searchNumber n k = s.searchNumber n k := by
    intro n; induction n with
    | zero => intro k; rfl
    | succ n ih => intro k; simp only [State.searchNumber, ih]; rfl
  exact this _ _

/-! ### Offers (R16) -/

/-- An offer of a bar that no waiting job takes does nothing. -/
theorem State.offer_none (s : State) (k : SlotIx) (b : Bar) (e : Option Nat) (hs : s.slot k = .ready b)
    (h : ∀ j ∈ s.queue, ¬(s.waits e j = true ∧ s.qualifies j.station b = true)) : s.offer k e = s := by
  simp only [State.offer, hs]
  have : (s.queue.filter fun j => s.waits e j && s.qualifies j.station b) = [] := by
    rw [List.filter_eq_nil_iff]; intro j hj; have := h j hj; simpa using this
  rw [this]; rfl

/-- An offer of a bar that some waiting job takes reserves it for one of those jobs. -/
theorem State.offer_some (s : State) (k : SlotIx) (b : Bar) (e : Option Nat) (hs : s.slot k = .ready b)
    (h : ∃ j ∈ s.queue, s.waits e j = true ∧ s.qualifies j.station b = true) :
    ∃ j ∈ s.queue, (s.waits e j = true ∧ s.qualifies j.station b = true) ∧
      s.offer k e = s.reserve k b j.number j.station := by
  simp only [State.offer, hs]
  generalize hl : (s.queue.filter fun j => s.waits e j && s.qualifies j.station b) = l
  cases hf : s.firstInOrder l with
  | none =>
    have := (firstBy_eq_none _ _).mp hf
    rw [← hl, List.filter_eq_nil_iff] at this
    obtain ⟨j, hj, h2⟩ := h
    have := this j hj; simp [h2] at this
  | some j =>
    have := mem_of_firstBy _ _ _ hf
    rw [← hl, List.mem_filter] at this
    exact ⟨j, this.1, by simpa using this.2, rfl⟩

/-- A slot that is not READY is not offered. -/
theorem State.offer_not_ready (s : State) (k : SlotIx) (e : Option Nat) (h : ∀ b, s.slot k ≠ .ready b) :
    s.offer k e = s := by
  simp only [State.offer]

end Sys2Proof.Machine
end

