-- ==== Sys2Proof/Laws/Requests.lean ====
section
/-! SUPPORT. What a request of a station port comes to: the part that every request shares, once its link is UP. -/

namespace Sys2Proof.Machine

/-- The record in which a request is applied: heard now, its line set aside. -/
def StationRec.taken (r : StationRec) (now : Time) : StationRec := { r with lastHeard := some now, rx := .hunt, tx := [] }

@[simp] theorem StationRec.taken_present (r : StationRec) (t : Time) : (r.taken t).present = r.present := rfl
@[simp] theorem StationRec.taken_link (r : StationRec) (t : Time) : (r.taken t).link = r.link := rfl
@[simp] theorem StationRec.taken_spindle (r : StationRec) (t : Time) : (r.taken t).spindle = r.spindle := rfl
@[simp] theorem StationRec.taken_ring (r : StationRec) (t : Time) : (r.taken t).ring = r.ring := rfl
@[simp] theorem StationRec.taken_lastPart (r : StationRec) (t : Time) : (r.taken t).lastPart = r.lastPart := rfl
@[simp] theorem StationRec.taken_cradle (r : StationRec) (t : Time) : (r.taken t).cradle = r.cradle := rfl
@[simp] theorem StationRec.taken_tote (r : StationRec) (t : Time) : (r.taken t).tote = r.tote := rfl
@[simp] theorem StationRec.taken_zone (r : StationRec) (t : Time) : (r.taken t).zone = r.zone := rfl
@[simp] theorem StationRec.taken_handoff (r : StationRec) (t : Time) : (r.taken t).handoff = r.handoff := rfl

/-- A record written back as it stands changes nothing. -/
theorem State.setStation_self (s : State) (i : Station) : s.setStation i (s.station i) = s := by
  simp [State.setStation, State.station]

theorem State.heard_takeLine (s : State) (i : Station) :
    (s.heard i).takeLine i = s.setStation i ((s.station i).taken s.clock) := by
  simp [State.heard, State.takeLine, State.modStation, StationRec.taken]

/-- A notice to a present station goes on its line. -/
theorem State.notify_present (s : State) (i : Station) (f : Frame) (hp : (s.station i).present = true) :
    s.notify i f = s.setStation i { s.station i with tx := (s.station i).tx ++ [f] } := by
  simp [State.notify, hp, State.transmit, State.modStation]

/-- A station that is not present gets no notice (R187). -/
theorem State.notify_absent (s : State) (i : Station) (f : Frame) (hp : (s.station i).present = false) :
    s.notify i f = s := by
  simp [State.notify, hp]

/-- An event raised and a station record written commute. -/
theorem State.raiseEvent_setStation (s : State) (c : Cause) (sc : Scope) (d : Nat) (i : Station) (r : StationRec) :
    (s.setStation i r).raiseEvent c sc d = (s.raiseEvent c sc d).setStation i r := by
  apply State.ext_of_fields <;> simp [State.setStation]
  simp only [State.raiseEvent, State.attOf]; split <;> rfl

/-- A request of a present station whose link is not LOST, or that does not return the link, is applied to the record
taken; its answer stands behind the line and before what it sent. -/
theorem State.request_up (s : State) (i : Station) (b : Bool) (apply : State → State × Frame)
    (hp : (s.station i).present = true) (hl : b = true → (s.station i).link.isLost = false) :
    s.request i b apply = ((apply (s.setStation i ((s.station i).taken s.clock))).1.placeAnswer i (s.station i).tx
      (apply (s.setStation i ((s.station i).taken s.clock))).2).settle := by
  have hl2 : b = true → ((s.heard i).station i).link.isLost = false := by simpa [State.heard] using hl
  have htx : ((s.heard i).station i).tx = (s.station i).tx := by simp [State.heard]
  have hr : (if b then (s.heard i).linkReturn i else s.heard i) = s.heard i := by
    cases b
    · rfl
    · simp [State.linkReturn, hl2]
  simp only [State.request, hp, if_true, hr, State.heard_takeLine, htx]

/-- A request that an attached station may make, at an UP station. -/
theorem State.attached_up (s : State) (i : Station) (type : Byte) (apply : State → State × Frame) (h : s.UpAt i) :
    s.attachedRequest i type apply = ((apply (s.setStation i ((s.station i).taken s.clock))).1.placeAnswer i
      (s.station i).tx (apply (s.setStation i ((s.station i).taken s.clock))).2).settle := by
  obtain ⟨hd, hp, hl⟩ := h
  rw [State.attachedRequest, State.request_up _ _ _ _ hp (by simp [hl, Link.isLost])]
  have hl3 : ¬((s.setStation i ((s.station i).taken s.clock)).station i).link = .detached := by
    simp [hl]
  simp only [hl3, if_false]

/-- The same, once what the request does to the record taken is known. -/
theorem State.attached_of (s : State) (i : Station) (type : Byte) (f : Frame) (q : State)
    (apply : State → State × Frame) (h : s.UpAt i)
    (hf : apply (s.setStation i ((s.station i).taken s.clock)) = (q, f)) :
    s.attachedRequest i type apply = (q.placeAnswer i (s.station i).tx f).settle := by
  rw [State.attached_up _ _ _ _ h, hf]

/-- A request that changes only the station's record by a function that leaves the line alone, and informs nobody. -/
theorem State.attached_quiet (s : State) (i : Station) (type : Byte) (f : Frame) (apply : State → State × Frame)
    (h : s.UpAt i) (g : StationRec → StationRec) (hg : ∀ x t, g { x with tx := t } = { g x with tx := t })
    (hf : apply (s.setStation i ((s.station i).taken s.clock)) =
      (s.setStation i (g ((s.station i).taken s.clock)), f)) :
    s.attachedRequest i type apply = s.setStation i (g ((s.station i).answered s.clock f)) := by
  rw [State.attached_up _ _ _ _ h, hf, State.settle_idle _ (by simp [State.placeAnswer, h.1])]
  have e1 := hg (({s.station i with lastHeard := some s.clock, rx := .hunt})) []
  have e2 := hg (({s.station i with lastHeard := some s.clock, rx := .hunt})) ((s.station i).tx ++ [f])
  simp only [StationRec.taken, StationRec.answered, State.placeAnswer, State.modStation] at *
  simp [e1, e2]

/-- A request that is answered and changes nothing: a refusal, or a repeat. -/
theorem State.attached_refused (s : State) (i : Station) (type : Byte) (f : Frame) (apply : State → State × Frame)
    (h : s.UpAt i)
    (hf : apply (s.setStation i ((s.station i).taken s.clock)) = (s.setStation i ((s.station i).taken s.clock), f)) :
    s.attachedRequest i type apply = s.setStation i ((s.station i).answered s.clock f) :=
  s.attached_quiet i type f apply h id (fun _ _ => rfl) hf

end Sys2Proof.Machine
end

