-- ==== Sys2Proof/Laws/Tables.lean ====
section
/-! SUPPORT. The lengths of the parts of the table entries, and the entry at a station's number. -/

namespace Sys2Proof.Machine

@[simp] theorem nat16_length (n : Nat) : (nat16 n).length = 2 := rfl
@[simp] theorem nat32_length (n : Nat) : (nat32 n).length = 4 := rfl
@[simp] theorem timeBytes_length (t : Option Time) : (timeBytes t).length = 4 := by cases t <;> rfl
@[simp] theorem barBytes_length (b : Option Bar) : (barBytes b).length = 15 := by cases b <;> rfl
@[simp] theorem setupEntry_length (u : Option Setup) : (setupEntry u).length = 24 := by cases u <;> rfl
@[simp] theorem ringBytes_length (ring : List Nat) : (ringBytes ring).length = 8 := rfl

/-- The entry of the STATION table at a station's number is that station's. -/
theorem State.tableEntry_station (s : State) (i : Station) :
    s.tableEntry .station (i.val + 1) = (1, s.stationEntry i) := by
  simp [State.tableEntry]

/-- A field of a concatenation, by the length of what stands before it. -/
theorem field_of_append (l a b c : List Byte) (n m : Nat) (e : l = a ++ b ++ c) (h : a.length = n) (hm : b.length = m) :
    (l.drop n).take m = b := by
  subst e h hm; simp

end Sys2Proof.Machine
end

