-- ==== Sys2Proof/Tests/Slice0.lean ====
section
/-! SUPPORT. The tests: ill-formed operands refused, frames and checksums written out from the manual's tables, cases of the
manual's worked sequences, and for each statement with hypotheses a state and operands that meet them. Expected values are
the manual's, or worked by hand from its rules. -/

namespace Sys2Proof.Tests

open Sys2Proof Sys2Proof.Machine

/-! ### Helpers -/

/-- The state a command leaves; the state before it where it stops. -/
def after (c : Instr) (s : State) : State :=
  match exec c s with
  | .next t => t
  | _ => s

/-- The command answers a next state. -/
def completes (c : Instr) (s : State) : Bool :=
  match exec c s with
  | .next _ => true
  | _ => false

/-- A write transaction with TAG 7 and the payload given as numbers. -/
def wr (l : List Nat) : Write := Write.of 7#8 (l.map nat8)

/-- STATUS and payload of the waiting answer. -/
def reply (s : State) : Option (Byte × List Byte) := s.supervisor.answer.map fun a => (a.status, a.payload)

/-- Stock ROUND 112/320 of the manual's worked sequences. -/
def round112 : Stock := ⟨112, .round, 320⟩

/-- The setup of station 7 in 2.8: P = 4,500, with a tote of 120 and an exchange lead of 15. -/
def setup7 : Setup := ⟨round112, 4200, 300, 150, 25000, 420, 2, 120, 15⟩

/-- A bar with a tag and a length; its stamp is its tag. -/
def bar (tag length : Nat) : Bar := ⟨tag, round112, length, tag⟩

/-- An account opened from tag 1, 300,000 lu, with rem, parts made, N and K. -/
def acct (rem made left lead : Nat) : Account := ⟨bar 1 300000, rem, made, left, lead, false⟩

/-- A job posted at 0. -/
def job (n : Nat) (kind : JobKind) (i : Station) (cls : Nat) (slot : Option SlotIx) : Job :=
  ⟨n, kind, i, cls, 0, 0, slot, none, 0⟩

/-- A present station, UP, heard at 0, with room in its tote. -/
def lathe : StationRec := { StationRec.reset with present := true, link := .up, lastHeard := some 0, tote := .filling 0 }

/-- The hall with one station record, that of station 7. -/
def hall (r : StationRec) : State := State.reset.setStation 6 r

/-- Station 7 RUNNING. -/
def running : StationRec := { lathe with spindle := .running setup7 (acct 299850 0 61 8), travel := 1500 }

/-- Station 7 STARVED. -/
def starved : StationRec := { lathe with spindle := .starved setup7 }

/-- The hall with station 7 as given and the shuttle IDLE with DRV_RDY high. -/
def ready (r : StationRec) : State :=
  { hall r with shuttle := .idle, drive := { Drive.reset with ready := true, pingAt := some 10 } }

/-- The sequencer's record of a job in a phase. -/
def current (j : Job) (p : Phase) : Current := ⟨j, p, none, false, false, false⟩

/-- The supervisor port in PRODUCTION. -/
def production : Supervisor := { Supervisor.reset with mode := .production }

/-- The hall in PRODUCTION with the current job of station 7 moving. -/
def moving (r : StationRec) (c : Current) (m : Move) (l : Load) : State :=
  { ready r with
    shuttle := .moving (.job c) m
    load := l
    drive := { Drive.reset with ready := true, moveTag := m.tag }
    supervisor := production }

/-! ### Operands that do not belong to a row -/

theorem test_unknown_type_refuses_a_request : (Instr.unknownType 0 0x09#8).wellFormed = false := by decide
theorem test_unknown_cmd_refuses_a_code : (Instr.unknownCmd 0x82#8 (wr [])).wellFormed = false := by decide
theorem test_unknown_cmd_refuses_zero : (Instr.unknownCmd 0x00#8 (wr [])).wellFormed = false := by decide
theorem test_command_byte_refuses_zero : (Instr.commandByte ⟨0x00#8, 0⟩).wellFormed = false := by decide
theorem test_command_byte_refuses_a_whole_write : (Instr.commandByte ⟨0x82#8, 3⟩).wellFormed = false := by decide
theorem test_discard_refuses_no_sync : (Instr.frameDiscard .drive [0x5A#8]).wellFormed = false := by decide
theorem test_fault_refuses_code_zero : (Instr.fault 1 0).wellFormed = false := by decide
theorem test_hall_param_rows_part_by_len :
    (Instr.hallParamRead (wr [1, 0, 0, 0, 0])).wellFormed = false ∧ (Instr.hallParamWrite (wr [1])).wellFormed = false := by
  decide
theorem test_station_param_rows_part_by_len :
    (Instr.stationParamRead (wr [1, 1, 0, 0, 0, 0])).wellFormed = false ∧
    (Instr.stationParamWrite (wr [1, 1])).wellFormed = false := by decide
theorem test_hold_rows_part_by_action :
    (Instr.stationHold (wr [2, 0, 0])).wellFormed = false ∧ (Instr.stationHoldRelease (wr [1, 0, 0])).wellFormed = false := by
  decide
theorem test_recover_rows_part_by_option :
    (Instr.recoverRetry (wr [2])).wellFormed = false ∧ (Instr.recoverResume (wr [3])).wellFormed = false ∧
    (Instr.recoverReturn (wr [4])).wellFormed = false ∧ (Instr.recoverClear (wr [1])).wellFormed = false := by decide
theorem test_mode_rows_part_by_mode :
    (Instr.modeProduction (wr [1])).wellFormed = false ∧ (Instr.modeCommission (wr [2])).wellFormed = false := by decide

/-! ### The wire, written out from R182, R184 and R198 -/

set_option maxRecDepth 4000 in
/-- The check value of R182. -/
theorem test_crc_check_value : crc16 [0x31, 0x32, 0x33, 0x34, 0x35, 0x36, 0x37, 0x38, 0x39] = 0x29B1#16 := by decide
theorem test_frame_hello : decodeFrame (.station 0) 0x01#8 [] = some (.hello 0) := by decide
theorem test_frame_hello_with_a_byte : decodeFrame (.station 0) 0x01#8 [0] = none := by decide
/-- PART_OFF with count 0102h, scrap 1 and advance 4,500 = 1194h, low bytes first. -/
theorem test_frame_part_off :
    decodeFrame (.station 4) 0x04#8 [0x02, 0x01, 0x01, 0x94, 0x11, 0x00, 0x00] =
      some (.partOff 4 0x0102#16 1#8 (some 4500#32)) := by decide
/-- ZONE_GRANT of 600 = 0258h ds. -/
theorem test_frame_zone_grant : decodeFrame (.station 11) 0x06#8 [0x58, 0x02] = some (.zoneGrant 11 600#16) := by decide
theorem test_frame_setup_offsets :
    decodeFrame (.station 6) 0x02#8 [0x70, 0x00, 0x01, 0x40, 0x01, 0x68, 0x10, 0x00, 0x00, 0x2C, 0x01, 0x96, 0x00, 0xA8,
      0x61, 0x00, 0x00, 0xA4, 0x01, 0x02, 0x78, 0x00, 0x0F, 0x00] =
      some (.setup 6 ⟨112#16, 1#8, 320#16, 4200#32, 300#16, 150#16, 25000#32, 420#16, 2#8, 120#16, 15#16⟩) := by decide
theorem test_frame_status_page : decodeFrame (.station 2) 0x08#8 [0x01] = some (.status 2 (some 1#8)) := by decide
theorem test_frame_done : decodeFrame .drive 0x21#8 [0xFF] = some (.done 255#8) := by decide
theorem test_frame_fault_code_zero : decodeFrame .drive 0x22#8 [0x05, 0x00] = none := by decide
theorem test_frame_move_is_not_taken_from_the_drive : decodeFrame .drive 0x20#8 [1, 4, 0, 1] = none := by decide
set_option maxRecDepth 4000 in
/-- A HELLO with its CRC, 0D2Eh worked by hand from R182, low byte first. -/
theorem test_frame_bytes_of_hello : frameBytes 0x01#8 [] = [0xA5, 0x00, 0x01, 0x2E, 0x0D] := by decide

/-! ### Supervisor transactions, their bytes written out from R191 and R198 -/

/-- STOCK_ENTER, code 10h with LEN 10, of slot 3 and bar 300,000 = 000493E0h. -/
theorem test_transaction_stock_enter :
    decodeTransaction [0x10, 0x07, 0x0A, 0x00, 0x03, 0x70, 0x00, 0x01, 0x40, 0x01, 0xE0, 0x93, 0x04, 0x00] =
      [.commandByte ⟨0x10#8, 0⟩, .stockEnter (wr [3, 112, 0, 1, 64, 1, 0xE0, 0x93, 0x04, 0])] := by decide
theorem test_transaction_table_read :
    decodeTransaction [0x21, 0x07, 0x00, 0x00] = [.commandByte ⟨0x21#8, 0⟩, .tableRead (wr [])] := by decide
/-- HALL_PARAM, code 30h, read with LEN 1 and written with LEN 5. -/
theorem test_transaction_hall_param :
    decodeTransaction [0x30, 0x07, 0x01, 0x00, 0x05] = [.commandByte ⟨0x30#8, 0⟩, .hallParamRead (wr [5])] ∧
    decodeTransaction [0x30, 0x07, 0x05, 0x00, 0x05, 0x14, 0x00, 0x00, 0x00] =
      [.commandByte ⟨0x30#8, 0⟩, .hallParamWrite (wr [5, 20, 0, 0, 0])] := by decide
/-- STATION_HOLD, code 42h, action 2 RELEASE, mask 0841h. -/
theorem test_transaction_hold_release :
    decodeTransaction [0x42, 0x07, 0x03, 0x00, 0x02, 0x41, 0x08] =
      [.commandByte ⟨0x42#8, 0⟩, .stationHoldRelease (wr [2, 0x41, 8])] := by decide
theorem test_transaction_outbound_cleared :
    decodeTransaction [0x52, 0x07, 0x02, 0x00, 0x08, 0x00] = [.commandByte ⟨0x52#8, 0⟩, .outboundCleared (wr [8, 0])] := by decide
/-- RECOVER, code 60h, by its option 4 CLEAR, and with an option that is none. -/
theorem test_transaction_recover :
    decodeTransaction [0x60, 0x07, 0x01, 0x00, 0x04] = [.commandByte ⟨0x60#8, 0⟩, .recoverClear (wr [4])] ∧
    reply ((decodeTransaction [0x60, 0x07, 0x01, 0x00, 0x05]).foldl (fun s c => after c s)
      ({ ready lathe with shuttle := .fault .manual ⟨.driveFault, 256, 0⟩ none } : State)) = some (0x02#8, [1, 1]) := by decide
theorem test_transaction_attention_summary :
    decodeTransaction [0x73, 0xFF, 0x00, 0x00] = [.commandByte ⟨0x73#8, 0⟩, .attentionSummary ⟨0xFF#8, 0, []⟩] := by decide
theorem test_transaction_mode :
    decodeTransaction [0x80, 0x07, 0x01, 0x00, 0x01] = [.commandByte ⟨0x80#8, 0⟩, .modeCommission (wr [1])] ∧
    decodeTransaction [0x80, 0x07, 0x01, 0x00, 0x02] = [.commandByte ⟨0x80#8, 0⟩, .modeProduction (wr [2])] ∧
    decodeTransaction [0x82, 0x07, 0x02, 0x00, 0x40, 0x00] = [.commandByte ⟨0x82#8, 0⟩, .stationRestart (wr [64, 0])] := by decide
/-- A code that is none, one byte less than LEN, a transaction cut after TAG, 00h with three bytes clocked behind it. -/
theorem test_transaction_edges :
    decodeTransaction [0x14, 0x07, 0x00, 0x00] = [.commandByte ⟨0x14#8, 0⟩, .unknownCmd 0x14#8 (wr [])] ∧
    decodeTransaction [0x82, 0x07, 0x02, 0x00, 0x40] = [.commandByte ⟨0x82#8, 0⟩, .stationRestart ⟨7#8, 2#16, [0x40#8]⟩] ∧
    decodeTransaction [0x82, 0x07] = [.commandByte ⟨0x82#8, 1⟩] ∧ decodeTransaction [0x00, 0x00, 0x00, 0x00] = [.readTransaction 3] ∧
    decodeTransaction [] = [] := by decide
/-- HALL_RESET cut after TAG and one LEN byte: the answer discarded, FFh on MISO for all three bytes (R191). -/
theorem test_transaction_cut_off :
    ((decodeTransaction [0x81, 0x07, 0x00]).foldl (fun s c => after c s) (after (.tableRead (wr [])) State.reset)).supervisor =
      { State.reset.supervisor with cursorIndex := 2, miso := [0xFF, 0xFF, 0xFF] } := by decide

/-! ### The manual's worked sequences -/

/-- 1.1: tags 65535 and 1 held, the counter at 65534: tag 2. -/
theorem test_tag_allocation_passes_held_tags :
    ({ (hall { lathe with spindle := .running setup7 { acct 299850 0 61 8 with bar := bar 65535 300000 } }).setSlot 19
      (.ready (bar 1 300000)) with tagCounter := 65534 } : State).freshTag = 2 := by decide

/-- 1.8, step 1: the first bar, into slot 3, has tag 1 and stamp 1. -/
theorem test_stock_enter_first_bar :
    (after (.stockEnter (wr [3, 112, 0, 1, 64, 1, 0xE0, 0x93, 0x04, 0])) State.reset).slot 2 = .ready (bar 1 300000) ∧
    reply (after (.stockEnter (wr [3, 112, 0, 1, 64, 1, 0xE0, 0x93, 0x04, 0])) State.reset) =
      some (0x01#8, [1, 0, 1, 0, 0, 0]) := by decide

/-- 2.8: the LOAD gives rem 299,850, N = 61 and K = 8 with one class 1 job of another station queued. -/
theorem test_load_of_station_7 :
    ((after (.load 6 none) { hall { lathe with spindle := .noBar setup7, cradle := some (bar 1 300000), travel := 1500 } with
      queue := [job 9 .swap 0 1 none] }).station 6).spindle = .running setup7 (acct 299850 0 61 8) := by decide

/-- 2.8, part 5: the ring becomes full, its mean with halves up is 422, rem 277,335 and N = 56. -/
theorem test_part_5_of_station_7 :
    let t := after (.partOff 6 5#16 0#8 none) { hall { running with
      spindle := .running setup7 (acct 281835 4 57 8), ring := [418, 425, 431], lastPart := some 0 } with clock := 412 }
    (t.station 6).ring = [418, 425, 431, 412] ∧ (t.station 6).cAvg = 422 ∧
      ((t.station 6).spindle.account?.map Account.rem) = some 277335 := by decide

/-- 2.8, part 6: an interval of 2,950 is discarded, the debit is held to 4,520, the drift count becomes 1. -/
theorem test_part_6_of_station_7 :
    let t := after (.partOff 6 6#16 0#8 (some 4560#32)) { hall { running with
      spindle := .running setup7 (acct 277335 5 56 8), ring := [418, 425, 431, 412], lastPart := some 0 } with clock := 2950 }
    (t.station 6).ring = [418, 425, 431, 412] ∧ (t.station 6).drift = 1 ∧
      (t.station 6).spindle.account?.map (fun a => (a.rem, a.partsLeft)) = some (272815, 55) := by decide

/-- 2.8, part 53: K rises to 10, the trigger holds, and a BAR job of class 2 makes the station LOW. -/
theorem test_part_53_of_station_7 :
    let t := after (.partOff 6 53#16 0#8 none) { hall { running with
      spindle := .running setup7 (acct 65830 52 9 8), ring := [421, 419, 424, 418], lastPart := some 0 } with
      clock := 421, queue := [job 9 .swap 0 1 none, job 10 .bar 1 0 none] }
    (t.station 6).spindle.barState = .low ∧ (t.station 6).spindle.account?.map Account.lead = some 10 ∧
      t.queue.map Job.cls = [1, 0, 2] := by decide

/-- 2.8, part 62: taken in ENDING, it sets the inexact flag and raises ACCOUNT_INEXACT with detail 62. -/
theorem test_part_62_of_station_7 :
    let t := after (.partOff 6 62#16 0#8 none) (hall { running with
      spindle := .ending setup7 (acct 25330 61 0 8), cradle := some (bar 2 300000) })
    (t.station 6).spindle.account?.map (fun a => (a.rem, a.inexact)) = some (20830, true) ∧
      (t.attOf .accountInexact (.station 6)).map AttRec.detail = some 62 := by decide

/-- 3.9: G is clamped to 15 and E to 399. -/
theorem test_setup_clamps :
    (setupOf ⟨40#16, 2#8, 190#16, 2800#32, 200#16, 100#16, 8000#32, 350#16, 30#8, 400#16, 450#16⟩) =
      some ⟨⟨40, .hex, 190⟩, 2800, 200, 100, 8000, 350, 15, 400, 399⟩ := by decide

/-- 4.9, step 8: the part that brings the count to 105 makes the tote DUE and posts a class 3 swap. -/
theorem test_tote_falls_due :
    let t := after (.partOff 6 1#16 0#8 none) (hall { running with tote := .filling 104 })
    (t.station 6).tote = .due 105 ∧ t.queue.map (fun j => (j.kind, j.cls)) = [(.swap, 3)] := by decide

/-- 5.10, first evaluation: job 31 is taken, bay B's pointer becomes 7, and the jobs passed over age. -/
theorem test_dispatch_of_job_31 :
    let q : List Job := [{ job 30 .swap 1 3 none with posted := 100, pass := 7 },
      { job 31 .bar 6 2 (some 13) with posted := 110, pass := 2 }, { job 32 .bar 4 2 (some 19) with posted := 120, pass := 4 },
      { job 33 .bar 9 2 none with posted := 130, pass := 5 }, { job 34 .swap 7 3 none with posted := 140 }]
    let t := State.evaluate { ready running with
      clock := 200
      supervisor := { Supervisor.reset with mode := .production }
      queue := q
      pool := ⟨8, 5, 0, 1, 0, 8⟩
      arbiter := { Arbiter.reset with first := .B, second := .A, bayB := ⟨true, some 5⟩ } }
    t.queue.map (fun j => (j.number, j.cls, j.pass)) = [(30, 2, 0), (32, 2, 5), (33, 2, 5), (34, 3, 1)] ∧
      t.arbiter.bayB.pointer = some 6 ∧ t.current?.map (fun c => c.job.number) = some 31 := by decide

/-- 6.12 at 50,212: DONE 118 issues PICK_BAR at SLOT 22 under tag 119 with the deadline 50,512. -/
theorem test_done_118 :
    (after (.done 118#8) { (moving running (current (job 41 .bar 6 2 (some 21)) .toSlot)
      ⟨118, .slot 21, .travel, 50900⟩ .nothing) with clock := 50212 }).shuttle =
      .moving (.job (current (job 41 .bar 6 2 (some 21)) .pick)) ⟨119, .slot 21, .pickBar, 50512⟩ := by decide

/-- 6.12 at 50,850: the DONE of an earlier move is stale. -/
theorem test_stale_done : (after (.done 119#8) (ready running)).drive.errors = 1 := by decide

/-- 7.10 at 60,040: a grant of 100 against H = 120 is declined; at 60,110 one of 200 admits the swap under tag 31. -/
theorem test_short_grant_and_admission :
    let s : State := { ready { running with zone := .requested, handoff := some 120 } with
      clock := 60040
      shuttle := .zoneWait (current (job 70 .swap 6 3 none) .zoneWait) 60300
      load := .totes .empty
      drive := { Drive.reset with ready := true, moveTag := 30 } }
    let t := after (.zoneGrant 6 100#16) s
    (t.station 6).zone = .requested ∧
      (t.station 6).tx = [⟨0x40#8, [6]⟩, ⟨0x66#8, [70, 120, 0, 100, 0, 1]⟩] ∧
      (after (.zoneGrant 6 200#16) { t with clock := 60110 }).shuttle =
        .moving (.job (current { job 70 .swap 6 3 none with deferral := 1 } .swap)) ⟨31, .totePort 6, .swapTote, 60350⟩ := by
  decide

/-- 8.11: DRV_RDY falls in MOVING; RETRY is refused NOT_READY; after the rise it issues the move under tag 142. -/
theorem test_emergency_stop :
    let c := current (job 88 .bar 6 0 (some 14)) .toStation
    let s : State := { moving starved c ⟨141, .cradle 6, .travel, 90900⟩ (.bar (bar 302 300000) 14) with clock := 90300 }
    let t := after .drvRdyFall s
    t.shuttle = .fault (.job c) ⟨.driveFault, 0x100, 90300⟩ (some ⟨141, .cradle 6, .travel, 90900⟩) ∧
      reply (after (.recoverRetry (wr [1])) t) = some (0x02#8, [9, 0]) ∧
      (after (.recoverRetry (wr [1])) { after .drvRdyRise t with clock := 90640 }).shuttle =
        .moving (.job c) ⟨142, .cradle 6, .travel, 91540⟩ := by decide

/-- 9.5 at 160: the FAULT of the move of the fault makes one record of count 2, detail 0025h. -/
theorem test_two_drive_reports :
    let t := after .drvRdyFall (moving running (current (job 5 .bar 6 2 (some 3)) .toSlot) ⟨9, .slot 3, .travel, 900⟩ .nothing)
    ((after (.fault 9#8 37#8) t).attOf .driveFault .hall).map (fun a => (a.count, a.detail)) = some (2, 0x25) := by decide

/-- 10: a PART_OFF given again with its count takes nothing. -/
theorem test_part_off_repeat :
    let s := hall { running with spindle := .running setup7 (acct 200000 17 38 8) }
    (after (.partOff 6 17#16 0#8 none) s).station 6 =
      { s.station 6 with tx := [⟨0x40#8, [4]⟩] } := by decide

/-- 10: silence of 51 ds loses the link at the tick that makes it so, not before. -/
theorem test_link_timeout_falls_due :
    (match step { hall running with clock := 49 } with | .next t => t.pending | _ => []) = [] ∧
    (match step { hall running with clock := 50 } with | .next t => t.pending | _ => []) = [.linkTimeout 6] := by decide

/-! ### States and operands that meet the hypotheses of the statements: the machine, the wire, the supervisor -/

theorem test_witness_step :
    ({ State.reset with pending := [.drvRdyRise, .pingDue] } : State).pending = .drvRdyRise :: [.pingDue] ∧
    State.reset.pending = [] := by decide

theorem test_witness_no_time : Instr.hello 0 ≠ .powerOnReset ∧ completes (.hello 0) (hall lathe) = true := by decide

/-- Of the due expiries: silence of 51 ds, not of 50; the third ds after a byte, not the second; a deadline at its ds. -/
theorem test_witness_idle_step :
    (hall running).pending = [] ∧
    (match step { hall { StationRec.reset with rx := .gather [] 0 } with clock := 1 } with | .next t => t.pending | _ => [])
      = [] ∧
    (match step { hall { StationRec.reset with rx := .gather [] 0 } with clock := 2 } with | .next t => t.pending | _ => [])
      = [.interByteTimeout (.station 6)] ∧
    (match step { ready running with clock := 9 } with | .next t => t.pending | _ => []) = [.pingDue] ∧
    (match step { ready running with clock := 8 } with | .next t => t.pending | _ => []) = [] := by decide

theorem test_witness_power_on :
    State.reset.drive.ready = false ∧ (ready running).drive.ready = true ∧
    (after .powerOnReset (ready running)).shuttle = .idle := by decide

/-- Each setting does change by a command that owns it. -/
theorem test_witness_settings :
    (after (.attentionEnable (wr [0, 0])) State.reset).enable ≠ State.reset.enable ∧
    (after (.modeProduction (wr [2])) State.reset).supervisor.mode ≠ State.reset.supervisor.mode ∧
    (after (.hallParamWrite (wr [5, 20, 0, 0, 0])) State.reset).params ≠ State.reset.params ∧
    (after (.hallParamWrite (wr [7, 16, 0, 0, 0])) State.reset).pool.outCap ≠ State.reset.pool.outCap ∧
    ((after (.stationParamWrite (wr [7, 2, 1, 0, 0, 0])) State.reset).station 6).present = true ∧
    ((after (.stationParamWrite (wr [7, 1, 10, 0, 0, 0])) State.reset).station 6).travel = 10 ∧
    (after (.stockEnter (wr [3, 112, 0, 1, 64, 1, 0xE0, 0x93, 0x04, 0])) State.reset).arrival = 1 ∧
    (after (.toteAdd (wr [10, 0])) State.reset).pool.population = 10 ∧
    (after (.hallHold (wr [2])) State.reset).arbiter.hold = .full ∧
    (after (.arbiterOrder (wr [2, 1, 3, 7])) State.reset).arbiter.first = .B ∧
    (after (.tableCursor (wr [3, 24, 0])) State.reset).supervisor.cursorIndex = 24 := by decide

/-- Frames and transactions; a known TYPE with LEN 1, an unknown one with a payload, and at the drive port MOVE, DONE with LEN
2 and a TYPE that is none. -/
theorem test_witness_frames :
    (Instr.status 6 (some 1#8)).wellFormed = true ∧
    encodeFrame (.status 6 (some 1#8)) = some (.station 6, 0x08#8, [1#8]) ∧
    (Instr.fault 9 37).wellFormed = true ∧ encodeFrame (.fault 9 37) = some (.drive, 0x22#8, [9#8, 37#8]) ∧
    (hall running).receiver (.station 6) = .hunt ∧ (ready running).receiver .drive = .hunt ∧
    (Instr.stationHoldRelease (wr [2, 64, 0])).wellFormed = true ∧
    encodeCommand (.stationHoldRelease (wr [2, 64, 0])) = some (0x42#8, wr [2, 64, 0]) ∧
    (Instr.unknownCmd 0x14#8 (wr [])).wellFormed = true ∧ encodeCommand (.unknownCmd 0x14#8 (wr [])) = some (0x14#8, wr []) ∧
    (0x82#8 ≠ (0 : Byte) ∧ [7#8].length < 3) ∧ [0#8].length ∉ [0] ∧ ((0x20 : Nat), 4) ∉ [(0x21, 1), (0x22, 2), (0x23, 1)] ∧
    ((0x21 : Nat), 2) ∉ [(0x21, 1), (0x22, 2), (0x23, 1)] ∧ ((0x7F : Nat), 0) ∉ [(0x21, 1), (0x22, 2), (0x23, 1)] ∧
    ¬(1 ≤ (0x40#8).toNat ∧ (0x40#8).toNat ≤ 9) := by decide

set_option maxRecDepth 4000 in
theorem test_wrong_len_and_type_are_counted :
    ((after (.frameDiscard (.station 6) (frameBytes 0x01#8 [0])) (hall running)).station 6).errors = 1 ∧
    (after (.frameDiscard .drive (frameBytes 0x20#8 [1, 4, 0, 1])) (ready running)).drive.errors = 1 := by decide

set_option maxRecDepth 4000 in
/-- LEN 25; a wrong CRC; presence; a byte 2 and 3 ds ago; counts 14, 15 and 255. -/
theorem test_witness_bad_frames :
    let gathering (errors : Nat) : State := { hall { running with rx := .gather [0x00] 0, errors := errors } with clock := 3 }
    let noise (errors : Nat) : State := { ready running with drive := { Drive.reset with errors := errors, rx := .gather [] 0 } }
    (hall running).receiver (.station 6) = .hunt ∧ State.reset.receiver .drive = .hunt ∧ 24 < (25#8).toNat ∧
    ([] : List Byte).length ≤ 24 ∧ (0x0D#8 ++ 0x2F#8) ≠ crc16 [nat8 ([] : List Byte).length, 0x01#8] ∧
    ((hall running).station 6).present = true ∧ (State.reset.station 6).present = false ∧
    (gathering 0).receiver (.station 6) = .gather [0x00] 0 ∧ 2 < ((gathering 0).clock - 0).toNat ∧
    (({ gathering 0 with clock := 2 } : State).clock - 0).toNat ≤ 2 ∧
    255 ≤ (gathering 255).portErrors (.station 6) ∧ ¬16 ∣ (gathering 14).portErrors (.station 6) + 1 ∧
    16 ∣ (gathering 15).portErrors (.station 6) + 1 ∧ (gathering 15).portErrors (.station 6) < 255 ∧
    (noise 0).receiver .drive = .gather [] 0 ∧ 255 ≤ (noise 255).portErrors .drive ∧
    ¬16 ∣ (noise 14).portErrors .drive + 1 ∧ 16 ∣ (noise 239).portErrors .drive + 1 ∧
    (noise 254).portErrors .drive < 255 := by decide

theorem test_witness_transactions :
    let s : State := { State.reset with supervisor := { Supervisor.reset with answer := some ⟨7#8, 0x01#8, [1#8, 0#8]⟩ } }
    (1#8 ≠ (0 : Byte)) ∧ State.reset.supervisor.answer = none ∧ s.supervisor.answer = some ⟨7#8, 0x01#8, [1#8, 0#8]⟩ ∧
    5 < 4 + [1#8, 0#8].length ∧ 6 = 4 + [1#8, 0#8].length := by decide

theorem test_witness_length_and_mode :
    writeForm (.stockEnter (wr [1])) = some (wr [1], [10]) ∧ (wr [1]).len.toNat ∉ [10] ∧
    writeForm (.toteAdd (wr [1, 0])) = some (wr [1, 0], [2]) ∧
    (⟨7#8, 2#16, [1#8]⟩ : Write).bytes.length < (⟨7#8, 2#16, [1#8]⟩ : Write).len.toNat ∧
    (wr [1, 0]).len.toNat ∈ [2] ∧ (wr [1, 0]).len.toNat ≤ (wr [1, 0]).bytes.length ∧
    ({ State.reset with supervisor := { Supervisor.reset with mode := .production } } : State).supervisor.mode =
      .production := by decide

/-- Each field just out of its range, a slot that is taken, an entry with no waiting job and one that a job waits for. -/
theorem test_witness_stock_enter :
    let good := wr [64, 112, 0, 1, 64, 1, 0x10, 0x27, 0, 0]
    let waiting : State := { hall { starved with spindle := .starved { setup7 with remnant := 2000, facing := 0 } } with
      queue := [job 4 .bar 6 0 none] }
    good.lenOk [10] = true ∧ good.u8 0 = 64 ∧ good.u16 1 = 112 ∧ good.u8 3 = Shape.round.code ∧ good.u16 4 = 320 ∧
    good.u32 6 = 10000 ∧ State.reset.slot 63 = .empty ∧ State.reset.dispatchDue = false ∧
    (∀ j ∈ State.reset.queue, ¬(State.reset.waits none j = true ∧
      State.reset.qualifies j.station ⟨1, round112, 10000, 1⟩ = true)) ∧
    waiting.slot 63 = .empty ∧ waiting.freshTag = 1 ∧
    (∃ j ∈ waiting.queue, waiting.waits none j = true ∧ waiting.qualifies j.station ⟨1, round112, 10000, 1⟩ = true) ∧
    (wr [0, 112, 0, 1, 64, 1, 0x10, 0x27, 0, 0]).u8 0 < 1 ∧ 64 < (wr [65, 112, 0, 1, 64, 1, 0x10, 0x27, 0, 0]).u8 0 ∧
    1023 < (wr [64, 0, 4, 1, 64, 1, 0x10, 0x27, 0, 0]).u16 1 ∧ 3 < (wr [64, 112, 0, 4, 64, 1, 0x10, 0x27, 0, 0]).u8 3 ∧
    (wr [64, 112, 0, 1, 19, 0, 0x10, 0x27, 0, 0]).u16 4 < 20 ∧
    (wr [64, 112, 0, 1, 64, 1, 0x0F, 0x27, 0, 0]).u32 6 < 10000 ∧
    (State.reset.setSlot 63 (.blocked none)).slot 63 ≠ .empty := by decide

/-- The same fields refused with their positions, by the command. -/
theorem test_stock_enter_refusals :
    [[0, 112, 0, 1, 64, 1, 0x10, 0x27, 0, 0], [64, 0, 4, 1, 64, 1, 0x10, 0x27, 0, 0], [64, 112, 0, 4, 64, 1, 0x10, 0x27, 0, 0],
      [64, 112, 0, 1, 19, 0, 0x10, 0x27, 0, 0], [64, 112, 0, 1, 64, 1, 0x81, 0x1A, 6, 0]].map
        (fun l => reply (after (.stockEnter (wr l)) State.reset)) =
      [some (2#8, [1, 1]), some (2#8, [1, 2]), some (2#8, [1, 3]), some (2#8, [1, 4]), some (2#8, [1, 5])] := by decide

/-- Round both wraps: tags 65535 and 1 held behind 65534 (1.1), number 255 and 1 in use behind 254. -/
theorem test_witness_allocation :
    let s : State := { (((hall running).setSlot 19 (.ready (bar 65535 300000))).setSlot 20 (.ready (bar 1 300000))) with
      tagCounter := 65534, jobCounter := 254, queue := [job 255 .bar 0 2 none, job 1 .bar 1 2 none] }
    s.tagCounter ≤ 65535 ∧ s.freshTag = 2 ∧ (65535 + 65534 - s.tagCounter) % 65535 < (2 + 65534 - s.tagCounter) % 65535 ∧
    (1 + 65534 - s.tagCounter) % 65535 < (2 + 65534 - s.tagCounter) % 65535 ∧
    ¬(65534 + 65534 - s.tagCounter) % 65535 < (2 + 65534 - s.tagCounter) % 65535 ∧
    s.jobCounter ≤ 255 ∧ s.jobs.length < 255 ∧ s.freshNumber = 2 ∧
    (255 + 254 - s.jobCounter) % 255 < (2 + 254 - s.jobCounter) % 255 := by decide

theorem test_witness_slots :
    let s : State := { (((((State.reset.setSlot 0 (.blocked none)).setSlot 1 (.ready (bar 1 300000))).setSlot 2
      (.blocked (some (bar 2 300000)))).setSlot 3 (.out 9)).setSlot 4 (.reserved (bar 3 300000) 4)) with
        queue := [job 4 .bar 6 2 (some 4)] }
    (wr [1, 0]).lenOk [2] = true ∧ (wr [64, 2]).lenOk [2] = true ∧ 1 < (wr [64, 2]).u8 1 ∧ 64 < (wr [65, 0]).u8 0 ∧
    (wr [0, 0]).u8 0 < 1 ∧ (wr [1, 1]).u8 1 ≤ 1 ∧ s.slot 63 = .empty ∧ s.slot 0 = .blocked none ∧
    s.slot 1 = .ready (bar 1 300000) ∧ s.slot 2 = .blocked (some (bar 2 300000)) ∧ s.slot 3 = .out 9 ∧
    s.slot 4 = .reserved (bar 3 300000) 4 ∧ (wr [5, 0]).u8 1 = 0 ∧ (wr [5, 1]).u8 1 = 1 ∧
    (∃ j ∈ s.queue, j.number = 4) ∧ (∀ j ∈ (s.setQueue []).queue, j.number ≠ 4) ∧
    (wr [5]).lenOk [1] = true ∧ s.dispatchDue = false ∧
    (∀ j ∈ s.queue, ¬(s.waits none j = true ∧ s.qualifies j.station (bar 2 300000) = true)) := by decide

/-- The FORCE row of R8: the owner finds another bar, finds none, and is not tried at a LOST station. -/
theorem test_witness_forced_removal :
    let s (r : StationRec) : State := { (hall r).setSlot 4 (.reserved (bar 3 300000) 4) with queue := [job 4 .bar 6 0 (some 4)] }
    let two := (s starved).setSlot 9 (.ready (bar 5 200000))
    (s starved).dispatchDue = false ∧ (s starved).slot 4 = .reserved (bar 3 300000) 4 ∧ (wr [5, 1]).u8 1 = 1 ∧
    (s starved).queuedJob 4 = some (job 4 .bar 6 0 (some 4)) ∧ (s starved).queuedOf true 6 = some (job 4 .bar 6 0 (some 4)) ∧
    ((s starved).station 6).spindle.setup? = some setup7 ∧ ((s starved).station 6).link.isLost = false ∧
    ((s { starved with link := .lost 0 false }).station 6).link.isLost = true ∧
    ((after (.stockRemove (wr [5, 1])) (s starved)).attOf .stockOut (.station 6)).map AttRec.detail = some 112 ∧
    (after (.stockRemove (wr [5, 1])) two).slot 4 = .empty ∧
    (after (.stockRemove (wr [5, 1])) two).slot 9 = .reserved (bar 5 200000) 4 ∧
    (after (.stockRemove (wr [5, 1])) two).queue.map Job.slot = [some 9] := by decide

theorem test_witness_unblock_offers :
    let s : State := { (hall starved).setSlot 2 (.blocked (some (bar 2 300000))) with queue := [job 4 .bar 6 0 none] }
    (∃ j ∈ s.queue, s.waits none j = true ∧ s.qualifies j.station (bar 2 300000) = true) ∧
    (after (.slotUnblock (wr [3])) s).slot 2 = .reserved (bar 2 300000) 4 := by decide

theorem test_slot_unblock_is_wrong_state_elsewhere :
    (∀ x ∈ [State.reset.slot 2], ∀ b, x ≠ .blocked b) ∧
    reply (after (.slotUnblock (wr [3])) State.reset) = some (0x02#8, [4, 0]) := by
  constructor
  · intro x hx b; simp only [List.mem_singleton] at hx; rw [hx]; exact nofun
  · decide

theorem test_witness_tables :
    let s : State := { State.reset with
      queue := [job 4 .bar 6 0 none], attention := [⟨.driveFault, .hall, 256, 1, 0, false⟩] }
    (wr [1, 64, 0]).lenOk [3] = true ∧ 4 < (wr [5, 0, 0]).u8 0 ∧ (wr [1, 64, 0]).u8 0 = TableId.stock.code ∧
    (wr [1, 65, 0]).u16 1 > 64 ∧ (wr [2, 0, 0]).u16 1 < 1 ∧ (wr []).lenOk [0] = true ∧
    (s.tableEntry .queue 2).1 = 0 ∧ (s.tableEntry .stock 64).1 ≠ 0 ∧ (0 < s.queue.length) ∧ 0 < s.attention.length := by
  decide

/-- The link timeout lowered to 20 while a station has been silent for 21 ds, against 20, and the hold time to 100 while a
stay in LOST has lasted 100 ds, against 99 (R49, R51): both act at once. -/
theorem test_witness_hall_params :
    let silent (t : Time) : State := { hall running with clock := t }
    let held (t : Time) : State := { (hall { running with link := .lost 0 false }).setSlot 2 (.reserved (bar 2 300000) 4) with
      clock := t, queue := [job 4 .bar 6 2 (some 2)] }
    let timeout := Instr.hallParamWrite (wr [5, 20, 0, 0, 0])
    let hold := Instr.hallParamWrite (wr [6, 100, 0, 0, 0])
    (wr [1]).lenOk [1, 5] = true ∧ (wr [14]).u8 0 > 13 ∧ State.reset.hallParam 7 = some 8 ∧ (wr [7]).u8 0 = 7 ∧
    (wr [7]).len = 1 ∧ (wr [7, 16, 0, 0, 0]).len = 5 ∧ (wr [7, 16, 0, 0, 0]).u32 1 = 16 ∧ 16 < (wr [7, 17, 0, 0, 0]).u32 1 ∧
    (wr [7, 1, 0, 0, 0]).u32 1 < ({ State.reset with pool := ⟨3, 1, 0, 2, 0, 8⟩ } : State).pool.outFull ∧
    (7, 1, 16) ∈ [(1, 0, 1), (7, 1, 16)] ∧
    (after (.hallParamWrite (wr [7, 16, 0, 0, 0])) State.reset).hallParam 7 = some 16 ∧
    (silent 21).dispatchDue = false ∧ ((silent 21).station 6).link = .up ∧ ((silent 21).station 6).lastHeard = some 0 ∧
    ((after timeout (silent 21)).station 6).link = .lost 21 false ∧
    ((after timeout (silent 21)).attOf .linkLost (.station 6)).map AttRec.last = some 21 ∧
    ((after timeout (silent 20)).station 6).link = .up ∧
    ((held 100).station 6).link = .lost 0 false ∧ (held 100).OneJobOfAKind ∧ (held 100).NumbersOnce ∧
    ((after hold (held 100)).station 6).link = .lost 0 true ∧ (after hold (held 100)).slot 2 = .ready (bar 2 300000) ∧
    (after hold (held 100)).queue.map Job.slot = [none] ∧ ((after hold (held 99)).station 6).link = .lost 0 false := by decide

theorem test_witness_station_params :
    (wr [7, 1]).lenOk [2, 6] = true ∧ (wr [13, 1]).u8 0 > 12 ∧ (wr [7, 1]).u8 0 = (6 : Station).val + 1 ∧ (wr [7, 3]).u8 1 > 2 ∧
    (wr [7, 1]).len = 2 ∧ (wr [7, 1, 9, 0, 0, 0]).u32 2 < 10 ∧ (wr [7, 1, 0xB8, 0x0B, 0, 0]).u32 2 = 3000 ∧
    (wr [7, 2, 2, 0, 0, 0]).u32 2 > 1 ∧ (wr [7, 2, 0, 0, 0, 0]).len = 6 ∧ (wr [7, 2, 0, 0, 0, 0]).u32 2 = 0 ∧
    ((hall running).station 6).link ≠ .detached ∧ (State.reset.station 6).link = .detached ∧
    (∀ j ∈ State.reset.jobs, j.station ≠ 6) ∧
    (∃ j ∈ ({ State.reset with queue := [job 4 .bar 6 0 none] } : State).jobs, j.station = 6) := by decide

theorem test_witness_dispatch_settings :
    (wr [2, 1, 3, 7]).lenOk [4] = true ∧ (wr [2, 1, 3, 7]).u8 0 = Bay.B.code ∧ (wr [2, 1, 3, 7]).u8 1 = Bay.A.code ∧
    (wr [2, 1, 3, 7]).u8 2 = Bay.C.code ∧ (wr [2, 1, 3, 7]).u8 3 < 8 ∧ 8 ≤ (wr [2, 1, 3, 8]).u8 3 ∧
    reply (after (.arbiterOrder (wr [2, 2, 3, 0])) State.reset) = some (0x02#8, [1, 2]) ∧
    (wr [2]).lenOk [1] = true ∧ (wr [2]).u8 0 = HoldLevel.full.code ∧ 2 < (wr [3]).u8 0 ∧
    State.reset.arbiter.hold.code ≤ HoldLevel.full.code ∧
    (0 : Nat) < ({ State.reset with arbiter := { Arbiter.reset with hold := .soft } } : State).arbiter.hold.code := by decide

theorem test_witness_masks :
    (wr [1, 64, 0]).lenOk [3] = true ∧ (wr [3, 0, 0]).u8 0 > 2 ∧ (wr [1, 0, 16]).mask16 1 = 4096#16 ∧
    (wr [1, 0, 0]).mask16 1 = 0 ∧ ((wr [1, 64, 8]).mask16 1).getLsbD (6 : Station).val = true ∧
    (State.reset.station 6).present = false ∧
    (∀ j : Station, j < 6 → ((wr [1, 64, 8]).mask16 1).getLsbD j.val = true → (State.reset.station j).present = true) ∧
    (wr [64, 0]).lenOk [2] = true ∧ ((wr [1, 64, 0]).mask16 1).toNat < 4096 ∧
    (∀ i : Station, ((wr [1, 64, 0]).mask16 1).getLsbD i.val = true → ((hall running).station i).present = true) ∧
    ({ hall running with arbiter := { Arbiter.reset with holdMask := 64 } } : State).arbiter.holdMask &&&
      ((wr [2, 64, 0]).mask16 1).truncate 12 ≠ 0 := by decide

/-! ### The same: the stations and the totes -/

theorem test_witness_link_decides :
    let d : State := hall { StationRec.reset with present := true, tote := .filling 0 }
    (State.reset.station 6).present = false ∧ requestOf (.status 6 none) = some 6 ∧ d.dispatchDue = false ∧
    (d.station 6).present = true ∧ (d.station 6).link = .detached ∧ attachedType (.detach 6) = some 0x09#8 ∧
    (d.station 6).spindle = .unset ∧ (d.station 6).tote = .filling 0 ∧ (d.station 6).link.isLost = false ∧
    ((hall running).station 6).link.isLost = false := by decide

theorem test_witness_attach_without_tote :
    let s : State := hall { StationRec.reset with present := true }
    s.dispatchDue = false ∧ (s.station 6).present = true ∧ (s.station 6).link = .detached ∧ (s.station 6).spindle = .unset ∧
    (s.station 6).tote = .noTote ∧ s.supervisor.mode = .commission ∧ (∀ j ∈ s.jobs, ¬(j.station = 6 ∧ j.kind ≠ .bar)) ∧
    (after (.hello 6) s).queue.map Job.kind = [.place] := by decide

theorem test_witness_link_return :
    let s : State := { (hall { starved with link := .lost 0 true }).setSlot 2 (.ready (bar 1 300000)) with
      queue := [job 4 .bar 6 0 none] }
    requestOf (.zoneClose 6) = some 6 ∧ Instr.zoneClose 6 ≠ .hello 6 ∧ (s.station 6).present = true ∧
    (s.station 6).link = .lost 0 true ∧ s.queuedOf true 6 = some (job 4 .bar 6 0 none) ∧
    s.pick 6 = some (2, bar 1 300000) := by decide

theorem test_witness_restart :
    (hall running).dispatchDue = false ∧ ((hall running).station 6).present = true ∧
    (∀ j ∈ (hall running).jobs, j.station ≠ 6) ∧ ((hall running).station 6).tote = .filling 0 ∧
    ((hall running).station 6).link ≠ .detached ∧ ((hall running).station 6).link = .up ∧ (wr [64, 0]).lenOk [2] = true ∧
    (wr [64, 0]).mask16 0 = BitVec.twoPow 16 (6 : Station).val := by decide

/-- 51 ds against 50; 3,000 ds against 3,000; a reserved bar that nobody else waits for. -/
theorem test_witness_silence :
    let up : State := { hall running with clock := 51 }
    let lost (t : Time) : State := { (hall { running with link := .lost 0 false }).setSlot 2 (.reserved (bar 2 300000) 4) with
      clock := t, queue := [job 4 .bar 6 2 (some 2)] }
    (up.station 6).link = .up ∧ (up.station 6).lastHeard = some 0 ∧ up.params.linkTimeout < (up.clock - 0).toNat ∧
    (({ up with clock := 50 } : State).clock - 0).toNat ≤ up.params.linkTimeout ∧ (State.reset.station 6).link ≠ .up ∧
    ((lost 3000).station 6).link = .lost 0 false ∧ (lost 3000).dispatchDue = false ∧
    (lost 3000).params.resHold ≤ ((lost 3000).clock - 0).toNat ∧ ((lost 2999).clock - 0).toNat < (lost 2999).params.resHold ∧
    (lost 3000).queuedOf true 6 = some (job 4 .bar 6 2 (some 2)) ∧ (lost 3000).slot 2 = .reserved (bar 2 300000) 4 ∧
    (∀ q ∈ (lost 3000).queue, ¬((lost 3000).waits none q = true ∧ (lost 3000).qualifies q.station (bar 2 300000) = true)) ∧
    (∀ j ∈ ((lost 3000).setQueue []).queue, j.station = 6 → j.kind = .bar → j.slot = none) := by decide

theorem test_reservation_hold_not_in_up : ∀ since, ((hall running).station 6).link ≠ .lost since false := by
  intro since; exact nofun

/-- The SETUP of 2.8 in its wire fields, with one field or two replaced. -/
def fields7 : SetupFields := ⟨112#16, 1#8, 320#16, 4200#32, 300#16, 150#16, 25000#32, 420#16, 2#8, 120#16, 15#16⟩

/-- One SETUP for each check of R57, just over or under its bound, and the reasons and field indices of the refusals. -/
theorem test_setup_refusals :
    ([{ fields7 with material := 1024 }, { fields7 with shape := 4 }, { fields7 with size := 19 }, { fields7 with partLen := 99 },
      { fields7 with cutOff := 1501 }, { fields7 with facing := 3001 }, { fields7 with remnant := 1999 },
      { fields7 with capacity := 1000 }, { fields7 with partLen := 199701 },
      { fields7 with partLen := 199700, remnant := 199851 }] : List SetupFields).map
        (fun f => ((after (.setup 6 f) (hall lathe)).station 6).tx.map Frame.payload) =
      [[[2, 2, 1]], [[2, 2, 2]], [[2, 2, 3]], [[2, 2, 4]], [[2, 2, 5]], [[2, 2, 6]], [[2, 2, 7]], [[2, 2, 10]], [[2, 2, 5]],
       [[2, 3, 0]]] ∧
    ((after (.setup 6 { fields7 with size := 321 }) (hall running)).station 6).tx.map Frame.payload = [[2, 1, 0]] := by decide

theorem test_witness_setup :
    (hall lathe).UpAt 6 ∧ (hall running).UpAt 6 ∧ ((hall lathe).station 6).spindle.account? = none ∧
    ((hall running).station 6).spindle.account?.isSome = true ∧ ((hall running).station 6).spindle.setup? = some setup7 ∧
    ¬({ fields7 with size := 321 } : SetupFields).size.toNat = setup7.stock.size ∧
    (after (.setup 6 fields7) (hall lathe)).queue.map Job.cls = [0] := by decide

theorem test_witness_first_setup :
    let s : State := (hall lathe).setSlot 2 (.ready (bar 1 300000))
    let base := (hall lathe).setStation 6 { (hall lathe).station 6 with spindle := .starved setup7 }
    (hall lathe).UpAt 6 ∧ ((hall lathe).station 6).spindle = .unset ∧ setupRefusal .unset fields7 = none ∧
    setupOf fields7 = some setup7 ∧ ((hall lathe).station 6).tote = .filling 0 ∧ 0 < setup7.capacity - setup7.exchange ∧
    ((hall { lathe with cradle := some (bar 1 300000) }).station 6).cradle = some (bar 1 300000) ∧
    ((hall lathe).station 6).cradle = none ∧ (hall lathe).supervisor.mode = .commission ∧
    (∀ j ∈ (hall lathe).jobs, ¬(j.station = 6 ∧ j.kind = .bar)) ∧
    (∀ j ∈ (hall lathe).queue, j.number ≠ (hall lathe).freshNumber) ∧ base.pick 6 = none ∧
    (s.setStation 6 { s.station 6 with spindle := .starved setup7 }).pick 6 = some (2, bar 1 300000) := by decide

/-- Later SETUPs: with an account, in NO_BAR beside a cradle bar, in STARVED with a bar that suits, none, and one too short;
the new Q at, above and below the fill count. -/
theorem test_witness_later_setup :
    let s (r : StationRec) (k : Option SlotIx) (b : Bar) : State := { (hall r).setSlot 2 (.reserved b 4) with
      queue := [job 4 .bar 6 0 k] }
    let noBar : StationRec := { lathe with spindle := .noBar setup7, cradle := some (bar 1 300000) }
    let full (n : Nat) := after (.setup 6 fields7) (hall { running with tote := .filling n })
    (hall running).UpAt 6 ∧ ((hall running).station 6).spindle.setup? = some setup7 ∧
    setupRefusal ((hall running).station 6).spindle fields7 = none ∧ setupOf fields7 = some setup7 ∧
    ((hall running).station 6).spindle.account? = some (acct 299850 0 61 8) ∧ (hall running).queuedOf true 6 = none ∧
    ((hall noBar).station 6).cradle = some (bar 1 300000) ∧ (hall noBar).queuedOf true 6 = none ∧
    (s starved (some 2) (bar 9 300000)).queuedOf true 6 = some (job 4 .bar 6 0 (some 2)) ∧
    (s starved (some 2) (bar 9 300000)).slot 2 = .reserved (bar 9 300000) 4 ∧
    setup7.facing + setup7.remnant + (setup7.partLen + setup7.cutOff) ≤ 300000 ∧
    ¬setup7.facing + setup7.remnant + (setup7.partLen + setup7.cutOff) ≤ 29649 ∧
    (∀ q ∈ (s starved none (bar 9 300000)).queue, q.number = 4 → q = job 4 .bar 6 0 none) ∧
    ((after (.setup 6 fields7) (s starved (some 2) (bar 9 29649))).slot 2 = .ready (bar 9 29649)) ∧
    ((after (.setup 6 fields7) (s starved (some 2) (bar 9 29649))).attOf .stockOut (.station 6)).map AttRec.detail = some 112 ∧
    ((full 119).station 6).tote = .due 119 ∧ ((full 104).station 6).tote = .filling 104 ∧
    ((full 121).station 6).tote = .full 120 ∧ ((full 121).attOf .overfill (.station 6)).map AttRec.detail = some 1 ∧
    ((full 120).attOf .overfill (.station 6)) = none ∧ (full 120).hasToteJob 6 = true := by decide

theorem test_witness_load :
    let full := hall { lathe with spindle := .noBar setup7, cradle := some (bar 1 300000), travel := 1500 }
    (hall lathe).UpAt 6 ∧ ((hall lathe).station 6).spindle = .unset ∧
    ((hall running).station 6).spindle.account?.isSome = true ∧ ((hall starved).station 6).spindle = .starved setup7 ∧
    400000 < (400001#32).toNat ∧ (400000#32).toNat ≤ 400000 ∧ ((hall starved).station 6).cradle = none ∧ full.UpAt 6 ∧
    (full.station 6).spindle = .noBar setup7 ∧ (full.station 6).cradle = some (bar 1 300000) ∧
    (300500#32).toNat ≤ 300000 + full.params.lengthTol ∧ ¬(300501#32).toNat ≤ 300000 + full.params.lengthTol ∧
    max 1 (min ((1500 + 420 - 1) / 420 + 2) 63) < (300000 - 150 - 25000) / 4500 := by decide

theorem test_witness_part_off :
    let s := hall { running with spindle := .running setup7 (acct 200000 17 38 8) }
    s.UpAt 6 ∧ ((hall starved).station 6).spindle.account? = none ∧ (hall starved).UpAt 6 ∧
    (s.station 6).spindle.account? = some (acct 200000 17 38 8) ∧ (s.station 6).spindle.setup? = some setup7 ∧
    1 < (2#8).toNat ∧ 400000 < (400001#32).toNat ∧ (1#8).toNat ≤ 1 ∧ (400000#32).toNat ≤ 400000 ∧
    (17#16).toNat ≤ (acct 200000 17 38 8).made ∧ (acct 200000 17 38 8).made < (18#16).toNat := by decide

/-- R35: an interval of 6,000 is ringed and one of 6,001 is not; R28, R29: an advance at the edge of the window and beyond. -/
theorem test_part_off_boundaries :
    let s (t : Time) : State := { hall { running with lastPart := some 0, drift := 2 } with clock := t }
    ((after (.partOff 6 1#16 0#8 none) (s 6000)).station 6).ring = [6000] ∧
    ((after (.partOff 6 1#16 0#8 none) (s 6001)).station 6).ring = [] ∧
    ((after (.partOff 6 1#16 0#8 (some 4520#32)) (s 1)).station 6).drift = 0 ∧
    ((after (.partOff 6 1#16 0#8 (some 4521#32)) (s 1)).station 6).driftFlag = true ∧
    ((after (.partOff 6 1#16 0#8 (some 4521#32)) (s 1)).attOf .feedDrift (.station 6)).map AttRec.detail = some 4521 := by
  decide

theorem test_witness_bar_end :
    let s : State := { hall running with queue := [job 4 .bar 6 2 none] }
    s.UpAt 6 ∧ ((hall lathe).station 6).spindle.account? = none ∧ (s.station 6).spindle.setup? = some setup7 ∧
    (s.station 6).spindle.account? = some (acct 299850 0 61 8) ∧ (s.station 6).cradle = none ∧
    s.queuedOf true 6 = some (job 4 .bar 6 2 none) ∧ (∀ q ∈ s.queue, q.number = 4 → q = job 4 .bar 6 2 none) ∧
    s.supervisor.mode = .commission ∧ ((after (.barEnd 6 none) s).station 6).spindle = .starved setup7 := by decide

theorem test_witness_status :
    (hall running).UpAt 6 ∧ 1 < (2#8).toNat ∧ ((hall running).station 6).spindle.setup? = some setup7 ∧
    ((hall running).station 6).spindle.account? = some (acct 299850 0 61 8) ∧ ((hall running).station 6).tote = .filling 0 ∧
    0 < setup7.capacity - setup7.exchange ∧ (∀ j ∈ (hall running).jobs, j.station ≠ 6) := by decide

/-- Q = 120 and E = 15: 103, 104 and 119 parts in the tote before the part. -/
theorem test_witness_part_in_tote :
    let s (t : Tote) := hall { running with tote := t }
    ((s .noTote).station 6).tote = .noTote ∧ ((s (.full 120)).station 6).tote = .full 120 ∧
    ((s (.filling 103)).station 6).tote = .filling 103 ∧ 103 + 1 < setup7.capacity - setup7.exchange ∧
    setup7.capacity - setup7.exchange ≤ 104 + 1 ∧ 104 + 1 ≠ setup7.capacity ∧ 119 + 1 = setup7.capacity ∧
    (s (.filling 104)).hasToteJob 6 = false ∧
    ({ s (.filling 104) with queue := [job 4 .swap 6 3 none] } : State).hasToteJob 6 = true ∧
    (((s (.due 119)).countPart 6 setup7).1.station 6).tote = .full 120 := by decide

/-- PART_OFF with Q = 120 from a count of 118: three parts fill the tote and one is held off; of two with a scrap part one is
counted. The evaluation of a FULL tote posts a swap, but not for a DETACHED station (R78). -/
theorem test_witness_parts_in_tote :
    let s (t : Tote) := hall { running with tote := t }
    let t := after (.partOff 6 3 0 none) (s (.filling 118))
    (s (.filling 118)).UpAt 6 ∧ (0#8).toNat ≤ 1 ∧ (acct 299850 0 61 8).made < (3#16).toNat ∧ 118 < setup7.capacity ∧
    ((s (.due 118)).station 6).tote = .due 118 ∧ (t.station 6).tote = .full 120 ∧
    (t.attOf .overfill (.station 6)).map AttRec.detail = some 1 ∧ t.queue.map Job.cls = [1] ∧
    ((after (.partOff 6 2 1 none) (s (.filling 103))).station 6).tote = .filling 104 ∧
    ((after (.partOff 6 2 0 none) (s (.filling 103))).station 6).tote = .due 105 ∧
    ((s (.full 120)).toteEvaluate 6).queue.map Job.kind = [.swap] ∧
    ((hall { running with tote := .full 120, link := .detached }).toteEvaluate 6).queue = [] ∧
    ({ s (.full 120) with queue := [job 4 .swap 6 1 none] } : State).hasToteJob 6 = true := by decide

theorem test_witness_tote_commands :
    let s : State := { hall lathe with pool := ⟨12, 10, 1, 2, 0, 8⟩ }
    let bare : State := { hall { lathe with tote := .noTote } with pool := ⟨12, 10, 1, 2, 0, 8⟩ }
    s.dispatchDue = false ∧ (wr [52, 0]).lenOk [2] = true ∧ s.supervisor.mode = .commission ∧
    s.pool.population + (wr [52, 0]).u16 0 ≤ 64 ∧ 64 < s.pool.population + (wr [53, 0]).u16 0 ∧ (wr [0, 0]).u16 0 < 1 ∧
    (wr [9, 0]).u16 0 ≤ s.pool.empties - s.pool.reserved ∧ s.pool.empties - s.pool.reserved < (wr [10, 0]).u16 0 ∧
    (wr [2, 0]).u16 0 ≤ s.pool.outFull ∧ s.pool.outFull < (wr [3, 0]).u16 0 ∧ (wr [7, 0, 0]).lenOk [3] = true ∧
    12 < (wr [13, 0, 0]).u8 0 ∧ (s.station 6).tote ≠ .noTote ∧ (bare.station 6).tote = .noTote ∧
    (bare.station 6).spindle.setup? = none ∧ (wr [7, 0, 0]).u16 1 = 0 ∧ ¬(wr [7, 1, 0]).u16 1 = 0 ∧
    0 < bare.pool.empties - bare.pool.reserved ∧ State.reset.pool.empties - State.reset.pool.reserved = 0 ∧
    (∀ j ∈ bare.queue, ¬(j.station = 6 ∧ j.kind ≠ .bar)) := by decide

theorem test_witness_cycle_average :
    ({ running with ring := [418, 425, 431] } : StationRec).spindle.setup? = some setup7 ∧
    ({ running with ring := [418, 425, 431] } : StationRec).ring.length < 4 ∧
    ({ running with ring := [6000, 6000, 6000, 6000] } : StationRec).ring = [6000, 6000, 6000, 6000] ∧
    (∀ iv ∈ [1, 1, 1, 6000], 1 ≤ iv ∧ iv ≤ 6000) ∧ 1 ≤ setup7.cycle ∧ setup7.cycle ≤ 6000 := by decide

/-- N = K posts, N = K + 1 does not (K = 6 here). -/
theorem test_witness_lead :
    let s (n : Nat) := hall { running with spindle := .running setup7 (acct 50000 50 n 8) }
    ((s 6).station 6).spindle.setup? = some setup7 ∧ ((s 6).station 6).spindle.account? = some (acct 50000 50 6 8) ∧
    ((s 6).station 6).spindle.barState ≠ .ending ∧ ((s 6).station 6).cradle = none ∧ (s 6).hasJob true 6 = false ∧
    (((s 6).leadEvaluate 6).station 6).spindle.barState = .low ∧
    (((s 7).leadEvaluate 6).station 6).spindle.barState = .running ∧
    ((hall { running with spindle := .ending setup7 (acct 1 60 0 8) }).station 6).spindle.barState = .ending ∧
    (∀ j ∈ (s 6).queue, j.number ≠ (s 6).freshNumber) := by decide

/-! ### The same: the drive port, the shuttle, the zones and recovery -/

/-- A BAR job of station 7 with slot 22 and its reservation. -/
def barJob : Job := job 41 .bar 6 2 (some 21)

/-- The hall in PRODUCTION with the shuttle waiting at station 7 with a job and a load. -/
def waiting (r : StationRec) (j : Job) (l : Load) : State :=
  { ready r with shuttle := .zoneWait (current j .zoneWait) 300, load := l, supervisor := production }

/-- The hall in PRODUCTION with the shuttle in FAULT. -/
def faulted (r : StationRec) (w : Work) (m : Option Move) (l : Load) : State :=
  { ready r with shuttle := .fault w ⟨.driveFault, 256, 0⟩ m, load := l, supervisor := production }

theorem test_witness_ready_line :
    let m : Move := ⟨5, .slot 21, .travel, 900⟩
    State.reset.dispatchDue = false ∧ State.reset.drive.ready = false ∧ State.reset.shuttle = .offline ∧
    (ready running).drive.ready = true ∧ (ready running).shuttle = .idle ∧
    ({ ready running with drive := Drive.reset } : State).shuttle ≠ .offline ∧
    (moving running (current barJob .toSlot) m .nothing).shuttle = .moving (.job (current barJob .toSlot)) m ∧
    (waiting running barJob (.bar (bar 1 300000) 21)).shuttle = .zoneWait (current barJob .zoneWait) 300 ∧
    (faulted running .manual (some m) .nothing).shuttle = .fault .manual ⟨.driveFault, 256, 0⟩ (some m) := by decide

/-- A PING at its ds, not before; the third unanswered; answers with the tag outstanding and with another. -/
theorem test_witness_pings :
    let s (t : Time) (n : Nat) (out : Option Nat) : State := { ready running with
      clock := t, drive := { Drive.reset with ready := true, pingAt := some 10, pingOut := out, unanswered := n, pingTag := 255 } }
    (s 10 0 none).shuttle = .idle ∧ (s 10 0 none).drive.pingAt = some 10 ∧ ((s 10 0 none).clock - 10).toNat < 2147483648 ∧
    ¬((s 9 0 none).clock - 10).toNat < 2147483648 ∧ min ((s 10 1 (some 4)).drive.unanswered + 1) 3 < 3 ∧
    min ((s 10 2 (some 4)).drive.unanswered + 1) 3 = 3 ∧ (s 10 2 (some 4)).drive.pingOut ≠ none ∧
    (after .pingDue (s 10 2 (some 4))).shuttle = .offline ∧ (after .pingDue (s 10 0 none)).drive.pingTag = 1 ∧
    (s 10 2 (some 4)).drive.pingOut = some (4#8).toNat ∧ (s 10 2 (some 4)).drive.pingOut ≠ some (5#8).toNat ∧
    ({ s 10 3 (some 4) with shuttle := .offline } : State).drive.ready = true ∧
    ¬(State.reset.shuttle = .idle ∨ State.reset.shuttle = .offline ∧ State.reset.drive.ready = true) := by decide

theorem test_witness_move_answers :
    let m : Move := ⟨5, .slot 21, .travel, 900⟩
    let s (t : Time) : State := { moving running (current barJob .toSlot) m .nothing with clock := t }
    (s 900).dispatchDue = false ∧ m.tag = (5#8).toNat ∧ m.tag ≠ (6#8).toNat ∧ ((s 900).clock - m.deadline).toNat < 2147483648 ∧
    ¬((s 899).clock - m.deadline).toNat < 2147483648 ∧
    (faulted running (.job (current barJob .toSlot)) (some m) .nothing).shuttle =
      .fault (.job (current barJob .toSlot)) ⟨.driveFault, 256, 0⟩ (some m) ∧
    (after .moveDeadline (s 900)).shuttle =
      .fault (.job (current barJob .toSlot)) ⟨.moveTimeout, 5, 900⟩ (some m) := by decide

theorem test_no_move_when_idle : ∀ w m, (ready running).shuttle ≠ .moving w m := by
  intro w m; exact nofun

theorem test_witness_done :
    let s (p : Phase) (j : Job) (t : Target) (a : Action) (l : Load) := moving running (current j p) ⟨5, t, a, 900⟩ l
    let held := (s .pick barJob (.slot 21) .pickBar .nothing).setSlot 21 (.reserved (bar 9 300000) 41)
    let swap := job 70 .swap 6 3 none
    let stand : State := { s .pickEmpty swap .stand .pickTote .nothing with pool := ⟨3, 1, 1, 0, 1, 8⟩ }
    (s .toSlot barJob (.slot 21) .travel .nothing).dispatchDue = false ∧ (5 : Nat) = (5#8).toNat ∧
    (current barJob .toSlot).cancel = false ∧ (current barJob .toSlot).ret = none ∧ barJob.slot = some 21 ∧
    held.slot 21 = .reserved (bar 9 300000) 41 ∧ (1 ≤ stand.pool.reserved ∧ stand.pool.reserved ≤ stand.pool.empties) ∧
    (s .toStation swap (.totePort 6) .travel (.totes .empty)).station 6 = { running with } ∧ running.zone = .closed ∧
    ({ running with zone := .opened 400 } : StationRec).zone = .opened 400 ∧
    (after (.done 5#8) held).load = .bar (bar 9 300000) 21 ∧ (after (.done 5#8) held).slot 21 = .out 41 ∧
    ((after (.done 5#8) (s .toStation swap (.totePort 6) .travel (.totes .empty))).station 6).tx =
      [⟨0x65#8, [70, 2, 120, 0, 0, 0]⟩] := by decide

/-- In PRODUCTION: a bar from slot 22 into an empty cradle, an empty under the chute of a station without one, the full tote
of a station that is FULL again into the lane, attached and DETACHED, and a cancelled job with its slot and without. -/
theorem test_witness_handoffs :
    let place := job 72 .place 6 1 none
    let swap : Current := { current (job 66 .swap 6 3 none) .placeFull with outRes := true }
    let low : StationRec := { running with spindle := .low setup7 (acct 60000 50 7 8), zone := .inUse, handoff := some 80 }
    let s : State := { (moving low (current barJob .handoff) ⟨5, .cradle 6, .placeBar, 160⟩ (.bar (bar 9 300000) 21)).setSlot 21
      (.out 41) with pool := ⟨1, 0, 0, 0, 0, 8⟩ }
    let p : State := { moving { running with tote := .noTote, zone := .inUse, handoff := some 120 } (current place .place)
      ⟨5, .totePort 6, .placeTote, 240⟩ (.totes .empty) with pool := ⟨1, 0, 0, 0, 0, 8⟩ }
    let lane (r : StationRec) : State := { moving { r with tote := .full 120 } swap ⟨5, .outbound, .placeTote, 300⟩
      (.totes (.full 118 6)) with pool := ⟨9, 5, 0, 2, 1, 8⟩ }
    let off (j : Job) : State := { (moving running { current j .toSlot with cancel := true } ⟨5, .slot 21, .travel, 900⟩
      .nothing).setSlot 21 (.reserved (bar 9 300000) 41) with pool := ⟨1, 0, 0, 0, 0, 8⟩ }
    s.dispatchDue = false ∧ s.supervisor.mode = .production ∧ (current barJob .handoff).ret = none ∧
    s.load = .bar (bar 9 300000) 21 ∧ barJob.kind = .bar ∧ barJob.slot = some 21 ∧ (s.station 6).present = true ∧
    place.slot = none ∧ place.kind = .place ∧ swap.job.kind = .swap ∧ ((lane running).station 6).tote = .full 120 ∧
    (∀ j ∈ (lane running).queue, ¬(j.station = 6 ∧ j.kind ≠ .bar)) ∧ ((lane running).station 6).link ≠ .detached ∧
    ((lane { lathe with link := .detached }).station 6).link = .detached ∧ (off barJob).slot 21 = .reserved (bar 9 300000) 41 ∧
    (∀ q ∈ (off barJob).queue, ¬((off barJob).waits none q = true ∧ (off barJob).qualifies q.station (bar 9 300000) = true)) ∧
    (after (.done 5#8) s).slot 21 = .empty ∧ ((after (.done 5#8) s).station 6).spindle.barState = .running ∧
    ((after (.done 5#8) p).station 6).tx = [⟨0x64#8, []⟩, ⟨0x67#8, [72, 1]⟩] ∧
    (after (.done 5#8) (lane running)).pool = ⟨9, 5, 1, 3, 1, 8⟩ ∧
    ((after (.done 5#8) (lane running)).current?.map fun c => c.job.cls) = some 1 ∧
    (after (.done 5#8) (lane { lathe with link := .detached })).jobs = [] ∧
    (after (.done 5#8) (off barJob)).slot 21 = .ready (bar 9 300000) := by decide

theorem test_witness_zone_timeout :
    let s (t : Time) (l : Load) : State := { waiting running barJob l with clock := t }
    (s 300 (.bar (bar 9 300000) 21)).shuttle = .zoneWait (current barJob .zoneWait) 300 ∧
    ((s 300 .nothing).clock - 300).toNat < 2147483648 ∧ ¬((s 299 .nothing).clock - 300).toNat < 2147483648 ∧
    (s 300 (.bar (bar 9 300000) 21)).load = .bar (bar 9 300000) 21 ∧ (s 300 (.totes .empty)).load = .totes .empty ∧
    (s 300 (.totes (.full 118 6))).load = .totes (.full 118 6) ∧
    ((after .zoneWaitDeadline (s 300 (.totes .empty))).attOf .zoneTimeout (.station 6)).map AttRec.detail = some 297 := by
  decide

/-- 7.11 at 70,760 with station 7 in place of station 10, in PRODUCTION: backoff until 71,360, before a job posted later that
has no empty to take; a station without a setup, whose bar stays in the slot; a STARVED one, whose class 0 job takes the
bar and goes; a full tote into the lane and an empty to the stand. -/
theorem test_witness_returns :
    let c (p : Phase) (d : Disposition) : Current := { current { job 81 .bar 6 2 (some 39) with posted := 41000 } p with
      ret := some d }
    let s (r : StationRec) (p : Phase) (d : Disposition) : State := { (moving r (c p d) ⟨5, .slot 39, .placeBar, 160⟩
      (.bar (bar 9 300000) 39)).setSlot 39 (.out 81) with
        clock := 70760, queue := [{ job 82 .swap 2 3 none with posted := 41001 }] }
    let low : StationRec := { running with spindle := .low setup7 (acct 60000 50 7 8) }
    let full : State := { moving running { current (job 66 .swap 6 3 none) .placeFull with ret := some .endJob, outRes := true }
      ⟨5, .outbound, .placeTote, 300⟩ (.totes (.full 118 6)) with pool := ⟨2, 0, 0, 0, 1, 8⟩ }
    let back : State := { moving { running with tote := .due 110 } { current (job 66 .swap 6 3 none) .place with
      ret := some .reQueue, outRes := true } ⟨5, .stand, .placeTote, 300⟩ (.totes .empty) with pool := ⟨2, 0, 0, 0, 1, 8⟩ }
    (s low .putBack .reQueue).dispatchDue = false ∧ (c .putBack .reQueue).cancel = false ∧
    (c .putBack .reQueue).ret = some .reQueue ∧ (s low .toSlot .reQueue).load = .bar (bar 9 300000) 39 ∧
    (s low .putBack .reQueue).supervisor.mode = .production ∧ ((s low .putBack .reQueue).station 6).cradle = none ∧
    ((s low .putBack .reQueue).station 6).spindle.barState = .low ∧
    ((s lathe .putBack .endJob).station 6).spindle.barState ≠ .starved ∧
    ((s starved .putBack .endJob).station 6).spindle.barState = .starved ∧
    (∀ q ∈ (s starved .putBack .endJob).queue, ¬(q.station = 6 ∧ q.kind = .bar)) ∧
    (back.station 6).link ≠ .detached ∧ (back.station 6).tote = .due 110 ∧ (full.station 6).tote = .filling 0 ∧
    (after (.done 5#8) (s low .putBack .reQueue)).queue.map (fun j => (j.number, j.backoff)) =
      [(81, some 71360), (82, none)] ∧
    (after (.done 5#8) (s low .putBack .reQueue)).slot 39 = .reserved (bar 9 300000) 81 ∧
    (after (.done 5#8) (s lathe .putBack .endJob)).slot 39 = .ready (bar 9 300000) ∧
    (after (.done 5#8) (s starved .putBack .endJob)).queue.map Job.number = [82] ∧
    ((after (.done 5#8) (s starved .putBack .endJob)).current?.map fun c => (c.job.cls, c.job.slot)) = some (0, some 39) ∧
    (after (.done 5#8) full).pool = ⟨2, 0, 0, 1, 0, 8⟩ ∧ (after (.done 5#8) full).jobs = [] ∧
    (after (.done 5#8) back).pool = ⟨2, 1, 0, 0, 0, 8⟩ ∧ (after (.done 5#8) back).queue.map Job.backoff = [some 600] := by decide

/-- The bar put back is offered to a station that waits for it (R16). -/
theorem test_returned_bar_is_offered :
    let c : Current := { current { job 81 .bar 6 2 (some 39) with posted := 41000 } .putBack with ret := some .endJob }
    let s : State := { ((moving lathe c ⟨5, .slot 39, .placeBar, 160⟩ (.bar (bar 9 300000) 39)).setSlot 39 (.out 81)).setStation 2
      starved with queue := [job 82 .bar 2 0 none] }
    (∃ q ∈ s.queue, s.waits none q = true ∧ s.qualifies q.station (bar 9 300000) = true) ∧
    (after (.done 5#8) s).slot 39 = .reserved (bar 9 300000) 82 := by decide

theorem test_witness_grants :
    (hall running).UpAt 6 ∧ ¬10 ≤ (9#16).toNat ∧ (10 ≤ (10#16).toNat ∧ (600#16).toNat ≤ 600) ∧ ¬(601#16).toNat ≤ 600 ∧
    ({ running with zone := .inUse } : StationRec).zone = .inUse ∧ ((hall running).station 6).zone ≠ .inUse ∧
    ((after (.zoneGrant 6 600#16) (hall running)).station 6).zone = .opened 600 ∧
    ((after (.zoneClose 6) (hall { running with zone := .inUse })).station 6).tx = [⟨0x41#8, [7, 5, 0]⟩] := by decide

theorem test_no_visit_when_idle : ∀ c d, (hall running).shuttle = .zoneWait c d → c.job.station ≠ 6 := by
  intro c d h; exact absurd h nofun

/-- A window of exactly H admits; the fourth decline withdraws with detail 0200h + 41. -/
theorem test_witness_admission :
    let s (j : Job) := waiting { running with zone := .requested, handoff := some 80 } j (.bar (bar 9 300000) 21)
    (s barJob).UpAt 6 ∧ (s barJob).shuttle = .zoneWait (current barJob .zoneWait) 300 ∧ barJob.station = 6 ∧
    ((s barJob).station 6).zone ≠ .inUse ∧ ((s barJob).station 6).handoff = some 80 ∧ 80 ≤ (80#16).toNat ∧
    (79#16).toNat < 80 ∧ barJob.deferral + 1 < 4 ∧ 4 ≤ ({ barJob with deferral := 3 } : Job).deferral + 1 ∧
    ((after (.zoneGrant 6 80#16) (s barJob)).station 6).zone = .inUse ∧
    ((after (.zoneGrant 6 79#16) (s barJob)).station 6).zone = .requested ∧
    ((after (.zoneGrant 6 79#16) (s { barJob with deferral := 3 })).attOf .zoneTimeout (.station 6)).map AttRec.detail =
      some 553 := by decide

theorem test_witness_open_until :
    let s : State := { hall { running with zone := .opened 400, lastHeard := some 390 } with clock := 400 }
    let visited : State := { waiting { running with zone := .opened 400 } barJob .nothing with clock := 400 }
    (s.station 6).zone = .opened s.clock ∧ s.UpAt 6 ∧ (∀ c ∈ s.current?, c.job.station ≠ 6) ∧
    (∃ c ∈ visited.current?, c.job.station = 6 ∧ c.ret = none ∧ c.phase = .zoneWait) ∧ s.pending = [] ∧
    (match step { s with clock := 399 } with | .next t => t.pending | _ => []) = [.openUntilExpiry 6] := by decide

theorem test_zone_not_open : ∀ till, ((hall running).station 6).zone ≠ .opened till := by
  intro till; exact nofun

theorem test_witness_recover_checks :
    let m : Move := ⟨5, .slot 21, .travel, 900⟩
    let low : State := { faulted running .manual (some m) .nothing with drive := Drive.reset }
    (wr [1]).lenOk [1] = true ∧ (wr [0]).u8 0 < 1 ∧ 4 < (wr [5]).u8 0 ∧ (wr [3]).u8 0 ≤ 3 ∧ low.drive.ready = false ∧
    low.shuttle = .fault .manual ⟨.driveFault, 256, 0⟩ (some m) ∧ State.reset.supervisor.mode = .commission ∧
    (wr [1, 64]).lenOk [2] = true ∧ (wr [1, 64]).u8 0 = (Target.slot 63).kindCode ∧ (wr [1, 64]).u8 1 = (Target.slot 63).number ∧
    (ready running).shuttle = .idle ∧ State.reset.shuttle ≠ .idle ∧
    ({ ready running with shuttle := .moving .manual m } : State).shuttle = .moving .manual m ∧ m.tag = (5#8).toNat ∧
    reply (after (.recoverRetry (wr [5])) low) = some (0x02#8, [1, 1]) ∧
    reply (after (.manualMove (wr [1, 65])) (ready running)) = some (0x02#8, [1, 2]) := by decide

theorem test_no_fault_when_idle : ∀ k f m, (ready running).shuttle ≠ .fault k f m := by
  intro k f m; exact nofun

theorem test_no_target_of_slot_65 : ∀ t : Target, ¬((wr [1, 65]).u8 0 = t.kindCode ∧ (wr [1, 65]).u8 1 = t.number) := by
  intro t ⟨h0, h1⟩
  have e0 : (wr [1, 65]).u8 0 = 1 := by decide
  have e1 : (wr [1, 65]).u8 1 = 65 := by decide
  rw [e0] at h0; rw [e1] at h1
  cases t with
  | slot k => simp only [Target.number, slotNum] at h1; omega
  | _ => simp [Target.kindCode] at h0

theorem test_witness_retry_and_resume :
    let m : Move := ⟨5, .slot 21, .travel, 900⟩
    let s := (faulted running (.job (current barJob .pick)) (some m) .nothing).setSlot 21 (.reserved (bar 9 300000) 41)
    let w := faulted { running with zone := .requested, handoff := some 80 } (.job (current barJob .zoneWait)) none
      (.bar (bar 9 300000) 21)
    s.dispatchDue = false ∧ s.drive.ready = true ∧ (wr [1]).lenOk [1] = true ∧ (wr [1]).u8 0 = 1 ∧ (wr [2]).u8 0 = 2 ∧
    s.shuttle = .fault (.job (current barJob .pick)) ⟨.driveFault, 256, 0⟩ (some m) ∧
    s.slot 21 = .reserved (bar 9 300000) 41 ∧ (current barJob .pick).job.slot = some 21 ∧
    w.shuttle = .fault (.job (current barJob .zoneWait)) ⟨.driveFault, 256, 0⟩ none ∧ (w.station 6).handoff = some 80 ∧
    (w.station 6).zone = .requested ∧ ({ running with zone := .opened 400 } : StationRec).zone = .opened 400 ∧
    (after (.recoverResume (wr [2])) s).load = .bar (bar 9 300000) 21 ∧
    (after (.recoverRetry (wr [1])) s).drive.moveTag = 1 := by decide

/-- Faulted jobs in PRODUCTION with each load, in a visit and before it, with DRV_RDY high and low; a BAR job of a STARVED
station; a manual move. -/
theorem test_witness_return_and_clear :
    let m : Move := ⟨5, .slot 21, .travel, 900⟩
    let s (r : StationRec) (c : Current) (l : Load) (v : Slot) : State := { (faulted r (.job c) (some m) l).setSlot 21 v with
      supervisor := production, pool := ⟨2, 0, 0, 0, 0, 8⟩ }
    let held := Slot.reserved (bar 9 300000) 41
    let early := s running (current barJob .toSlot) .nothing held
    let urgent := s starved (current { barJob with cls := 0 } .toSlot) .nothing held
    let out := s running (current barJob .toStation) (.bar (bar 9 300000) 21) (.out 41)
    let visit := s { running with zone := .inUse, handoff := some 120 } (current (job 66 .swap 6 3 none) .swap) (.totes .empty)
      .empty
    let lane := s running (current (job 66 .swap 6 3 none) .toOutbound) (.totes (.full 118 6)) .empty
    let manual : State := { faulted running .manual (some m) .nothing with drive := Drive.reset }
    let stand := s running (current (job 66 .swap 6 3 none) .toStand) .nothing .empty
    early.dispatchDue = false ∧ (wr [3]).lenOk [1] = true ∧ (wr [3]).u8 0 = 3 ∧ (wr [4]).u8 0 = 4 ∧ early.drive.ready = true ∧
    early.supervisor.mode = .production ∧ (early.station 6).spindle.barState ≠ .starved ∧ early.slot 21 = held ∧
    (∀ q ∈ early.queue, ¬(early.waits none q = true ∧ early.qualifies q.station (bar 9 300000) = true)) ∧
    (urgent.station 6).spindle.barState = .starved ∧ (urgent.station 6).cradle = none ∧
    (∀ q ∈ urgent.queue, ¬(q.station = 6 ∧ q.kind = .bar)) ∧ out.load = .bar (bar 9 300000) 21 ∧ barJob.slot = some 21 ∧
    visit.load = .totes .empty ∧ lane.load = .totes (.full 118 6) ∧ stand.load = .nothing ∧
    manual.shuttle = .fault .manual ⟨.driveFault, 256, 0⟩ (some m) ∧ manual.drive.ready = false ∧
    (after (.recoverClear (wr [4])) out).slot 21 = .empty ∧ (after (.recoverClear (wr [4])) out).shuttle = .idle ∧
    (after (.recoverClear (wr [4])) manual).shuttle = .offline ∧
    (after (.recoverClear (wr [4])) visit).pool = ⟨2, 1, 0, 0, 0, 8⟩ ∧
    ((after (.recoverReturn (wr [3])) visit).station 6).tx = [⟨0x67#8, [66, 2]⟩] ∧
    (after (.recoverReturn (wr [3])) early).slot 21 = .ready (bar 9 300000) ∧
    (after (.recoverReturn (wr [3])) early).shuttle = .idle ∧
    ((after (.recoverReturn (wr [3])) urgent).current?.map fun c => (c.job.number, c.job.cls)) = some (1, 0) := by decide
/-! ### The same: attention, the dispatcher, the resets and the invariants -/

theorem test_witness_raises :
    let s : State := { State.reset with attention := [⟨.driveFault, .hall, 256, 255, 0, false⟩] }
    State.reset.attOf .driveFault .hall = none ∧ s.attOf .driveFault .hall = some ⟨.driveFault, .hall, 256, 255, 0, false⟩ ∧
    ¬(Cause.driveFault = .moveTimeout ∧ Scope.hall = .hall) ∧
    ((s.raiseEvent .driveFault .hall 70000).attOf .driveFault .hall).map (fun a => (a.detail, a.count)) =
      some (65535, 255) := by decide

/-- The set of 9.5 at 175: DRIVE_FAULT readable, STOCK_OUT reported, OVERFILL disabled. -/
def quarterHour : State := { State.reset with
  enable := 0xEFF
  attention := [⟨.driveFault, .hall, 37, 2, 160, false⟩, ⟨.stockOut, .station 4, 112, 1, 100, true⟩,
    ⟨.overfill, .station 2, 1, 1, 175, false⟩] }

theorem test_witness_attention_read :
    let one : State := { State.reset with attention := [⟨.stockOut, .station 4, 112, 1, 100, false⟩] }
    (wr []).lenOk [0] = true ∧ quarterHour.AttentionOrdered ∧
    quarterHour.attention = [] ++ ⟨.driveFault, .hall, 37, 2, 160, false⟩ :: quarterHour.attention.tail ∧
    quarterHour.enable.getLsbD (Cause.driveFault.priority - 1) = true ∧
    (∀ a ∈ quarterHour.attention.tail, ¬(quarterHour.enable.getLsbD (a.cause.priority - 1) = true ∧
      (a.cause.isCondition = false ∨ a.reported = false))) ∧
    Cause.driveFault.isCondition = false ∧ Cause.stockOut.isCondition = true ∧ one.AttentionOrdered ∧
    (wr [0, 16]).lenOk [2] = true ∧ 4096 ≤ ((wr [0, 16]).mask16 0).toNat ∧ ((wr [255, 15]).mask16 0).toNat < 4096 ∧
    reply (after (.attentionRead (wr [])) quarterHour) = some (0x01#8, [1, 0, 0x25, 0, 2, 160, 0, 0, 0, 1]) ∧
    (after (.attentionRead (wr [])) quarterHour).nAttn = true ∧
    ((after (.attentionRead (wr [])) one).attention.map AttRec.reported) = [true] := by decide

theorem test_witness_clear_all :
    (wr []).lenOk [0] = true ∧ Cause.overfill.isCondition = false ∧
    (after (.attentionClearAll (wr [])) quarterHour).attention.map AttRec.cause = [.stockOut] ∧
    (after (.attentionClearAll (wr [])) quarterHour).nAttn = true := by decide

theorem test_witness_dispatch :
    let s : State := { (ready running).setSlot 21 (.reserved (bar 9 300000) 41) with
      supervisor := production, queue := [barJob, job 42 .bar 3 1 none] }
    let t : State := { ready running with supervisor := production, queue := [job 70 .swap 6 3 none], pool := ⟨3, 1, 0, 2, 0, 3⟩ }
    State.reset.supervisor.mode = .commission ∧ s.supervisor.mode = .production ∧ s.shuttle = .idle ∧
    (∃ j ∈ s.queue, s.blockOf j = .none) ∧ (∀ j ∈ (s.setQueue [job 42 .bar 3 1 none]).queue, s.blockOf j ≠ .none) ∧
    (s.station barJob.station).present = true ∧ s.slot 21 = .reserved (bar 9 300000) 41 ∧
    (∃ j ∈ t.queue, t.blockOf j = .none ∧ j.kind ≠ .bar) ∧
    (s.evaluate.station 6).tx = [⟨0x60#8, [41, 1, 0xDC, 0x05, 9, 0]⟩] ∧
    t.evaluate.pool = ⟨3, 1, 1, 2, 1, 3⟩ := by decide

/-- JOB_CANCEL of a queued job in COMMISSION; of a job current in PRODUCTION by its rows; the backoff at its ds and before. -/
theorem test_witness_cancel :
    let m : Move := ⟨5, .slot 21, .travel, 900⟩
    let s : State := { (ready running).setSlot 21 (.reserved (bar 9 300000) 41) with queue := [barJob] }
    let c : Current := { current barJob .toSlot with cancel := true }
    let u := (moving running c m .nothing).setSlot 21 (.reserved (bar 9 300000) 41)
    let b (t : Time) : State := { ready running with clock := t, queue := [{ barJob with backoff := some 600 }] }
    s.dispatchDue = false ∧ (wr [41]).lenOk [1] = true ∧ (wr [0]).u8 0 = 0 ∧ (∀ j ∈ s.jobs, j.number ≠ (wr [42]).u8 0) ∧
    (∃ j ∈ s.queue, j.number = (wr [41]).u8 0) ∧ s.queuedJob 41 = some barJob ∧ s.supervisor.mode = .commission ∧
    (∀ q ∈ s.queue, q.number ≠ 41 → ¬(s.waits none q = true ∧ s.qualifies q.station (bar 9 300000) = true)) ∧
    u.supervisor.mode = .production ∧ u.current? = some c ∧ c.job.number = (wr [41]).u8 0 ∧
    (∀ j ∈ u.queue, j.number ≠ (wr [41]).u8 0) ∧ c.cancel = true ∧
    (moving running (current barJob .toSlot) m .nothing).load = .nothing ∧ m.action = .travel ∧
    (moving running (current barJob .toStation) m (.bar (bar 9 300000) 21)).load ≠ .nothing ∧
    (waiting running barJob .nothing).current? = some (current barJob .zoneWait) ∧
    (faulted running (.job (current barJob .toSlot)) (some m) .nothing).current? = some (current barJob .toSlot) ∧
    ((b 600).clock - 600).toNat < 2147483648 ∧ ¬((b 599).clock - 600).toNat < 2147483648 ∧
    (b 600).queuedJob 41 = some { barJob with backoff := some 600 } ∧ (b 600).queuedJob 42 = none ∧
    (after (.backoffExpiry 41) (b 600)).queue.map Job.backoff = [none] ∧
    (after (.jobCancel (wr [41])) s).slot 21 = .ready (bar 9 300000) ∧
    reply (after (.jobCancel (wr [41])) (moving running (current barJob .toSlot) m .nothing)) = some (0x00#8, []) := by decide

theorem test_witness_mode_and_reset :
    let m : Move := ⟨5, .slot 21, .travel, 900⟩
    let lost := hall { starved with link := .lost 0 false }
    let p : State := { moving running (current barJob .toSlot) m .nothing with
      supervisor := { Supervisor.reset with mode := .production } }
    State.reset.dispatchDue = false ∧ (wr [3]).lenOk [1] = true ∧ (wr [3]).u8 0 ≠ 1 ∧ (wr [3]).u8 0 ≠ 2 ∧ (wr [2]).u8 0 = 2 ∧
    (wr [1]).u8 0 = 1 ∧ p.supervisor.mode = .production ∧ p.current? ≠ none ∧ State.reset.current? = none ∧
    (wr []).lenOk [0] = true ∧ State.reset.shuttle = .offline ∧ (∀ i, (State.reset.station i).link = .detached) ∧
    (faulted running .manual (some m) .nothing).load = .nothing ∧ (lost.station 6).link.isLost = true ∧
    reply (after (.hallReset (wr [])) p) = some (0x02#8, [6, 0]) ∧
    ((after (.hallReset (wr [])) lost).attOf .linkLost (.station 6)).map AttRec.count = some 1 := by decide

theorem test_witness_attention_invariant :
    quarterHour.AttentionOrdered ∧ (match step { quarterHour with pending := [.attentionRead (wr [])] } with
      | .next t => decide t.AttentionOrdered | _ => false) = true := by decide

/-- A swap under way with an empty aboard: S_r given back, O_r held. -/
theorem test_witness_pool_invariant :
    let s : State := { moving running { current (job 70 .swap 6 3 none) .toStation with outRes := true }
      ⟨5, .totePort 6, .travel, 900⟩ (.totes .empty) with pool := ⟨6, 4, 0, 1, 1, 2⟩ }
    s.PoolHeld :=
  ⟨by decide, by decide, by decide, by decide, by decide, by decide, fun n i h => absurd h nofun⟩

theorem test_witness_jobs_invariant :
    let s : State := { moving { running with cradle := none } (current barJob .toSlot) ⟨5, .slot 21, .travel, 900⟩ .nothing with
      queue := [job 70 .swap 6 3 none] }
    s.JobsHeld := ⟨by decide, by decide, by decide⟩

theorem test_witness_zone_invariant :
    let s := moving { running with zone := .inUse } (current barJob .handoff) ⟨5, .cradle 6, .placeBar, 160⟩
      (.bar (bar 9 300000) 21)
    s.ZoneHeld ∧ s.zoneReached = some 6 := by decide

theorem test_witness_tags_invariant :
    (((hall running).setSlot 19 (.ready (bar 65535 300000))).setSlot 20 (.blocked (some (bar 2 300000)))).TagsHeld :=
  ⟨by decide, by decide⟩

theorem test_witness_fill_invariant :
    let s := (hall { running with tote := .due 119 }).setStation 7 { running with tote := .full 120 }
    s.FillHeld := by
  intro s i u hu
  have h : ∀ i : Station, (s.station i).spindle.setup? = (if i = 6 ∨ i = 7 then some setup7 else none) ∧
      (s.station i).tote.fill ≤ 120 ∧ ((s.station i).tote = .due 119 ∨ (s.station i).tote = .full 120 ∨
        (s.station i).tote = .noTote) := by decide
  obtain ⟨h1, h2, h3⟩ := h i
  have hu7 : u = setup7 := by
    rw [h1] at hu
    split at hu
    · exact (Option.some.inj hu).symm
    · exact absurd hu nofun
  subst hu7
  refine ⟨by decide, h2, fun n hn => ?_⟩
  obtain h3 | h3 | h3 := h3 <;> rw [h3] at hn <;> obtain hn | hn := hn <;> cases hn
  decide

/-- A BAR job on its way to station 7 with its bar aboard; station 3 STARVED with a bar reserved, and waiting for an empty. -/
def underWay : State :=
  { ((((moving { running with spindle := .low setup7 (acct 60000 50 7 8) } (current barJob .toStation)
    ⟨5, .cradle 6, .travel, 900⟩ (.bar (bar 9 300000) 21)).setSlot 21 (.out 41)).setSlot 30 (.reserved (bar 11 200000) 43)).setStation
      2 { starved with tote := .noTote }) with
    queue := [job 42 .place 2 1 none, job 43 .bar 2 0 (some 30)]
    pool := ⟨1, 0, 0, 0, 0, 8⟩
    jobCounter := 43 }

theorem test_witness_numbers_invariant : underWay.NumbersHeld := ⟨⟨by decide, by decide, by decide⟩, by decide, by decide⟩

theorem test_witness_work_invariant : underWay.WorkHeld where
  pool := ⟨by decide, by decide, by decide, by decide, by decide, by decide, fun n i h => absurd h nofun⟩
  numbers := test_witness_numbers_invariant
  slots := by decide
  totes := by decide
  load := by decide
  carries := fun c hc => by cases hc; exact ⟨bar 9 300000, 21, rfl⟩
  cancel := by decide
  waits := fun c d h => absurd h nofun
  stopped := fun w f h => absurd h nofun
  mode := by decide
  queued := fun j hj k hk => by
    simp only [underWay, List.mem_cons, List.not_mem_nil, or_false] at hj
    obtain rfl | rfl := hj <;> cases hk
    exact ⟨rfl, bar 11 200000, rfl⟩
  current := fun c hc _ => by
    cases hc
    exact ⟨21, rfl, fun h => absurd h nofun, fun b o h => by cases h; exact ⟨rfl, rfl⟩⟩
  noSlot := by decide
  swaps := by decide
  places := by decide
  attached := by decide
  unset := by decide

theorem test_arrival_of_the_work_under_way :
    (match step { underWay with pending := [.done 5#8] } with
     | .next t => decide (t.shuttle = .zoneWait (current barJob .zoneWait) 300)
     | _ => false) = true := by decide

end Sys2Proof.Tests
end

section
/-! PROOFS. The spindle accounts: O35 (average cycle time), O29 (PART_OFF refused or repeated), O36 (lead evaluation) and O30
(PART_OFF taken). The rules about the operations these rest on stand before them: the spindle, selection and posting of a BAR
job, the lead evaluation, the events' records, the end of an event, and the tote operations at one station. -/

open Sys2Proof Sys2Proof.Machine

namespace Sys2Proof.Machine

/-! ### Setup and account of a spindle -/

@[simp] theorem Spindle.withAccount_setup? (a : Account) (p : Spindle) : (p.withAccount a).setup? = p.setup? := by
  cases p <;> rfl

@[simp] theorem Spindle.withAccount_barState (a : Account) (p : Spindle) :
    (p.withAccount a).barState = p.barState := by
  cases p <;> rfl

theorem Spindle.withAccount_account? (a : Account) (p : Spindle) (h : p.account?.isSome) :
    (p.withAccount a).account? = some a := by
  cases p with
  | running | low | ending => rfl
  | unset | noBar | starved => cases h

/-- A spindle with an account has a setup (R21, R46). -/
theorem Spindle.setup?_of_account? (p : Spindle) (a : Account) (h : p.account? = some a) : ∃ u, p.setup? = some u := by
  cases p with
  | running u | low u | ending u => exact ⟨u, rfl⟩
  | unset | noBar | starved => cases h

/-- A spindle with setup and account is RUNNING, LOW or ENDING (R21). -/
theorem Spindle.cases_of_account? (p : Spindle) (u : Setup) (a : Account) (hu : p.setup? = some u)
    (ha : p.account? = some a) : p = .running u a ∨ p = .low u a ∨ p = .ending u a := by
  cases p <;> cases hu <;> cases ha <;> simp

/-! ### The average cycle time (R36) -/

theorem StationRec.cAvg_of_short (r : StationRec) (u : Setup) (hu : r.spindle.setup? = some u)
    (h : r.ring.length < 4) : r.cAvg = u.cycle := by
  unfold StationRec.cAvg
  rw [hu]
  dsimp only
  split
  · rename_i hr; simp [hr] at h
  · rfl

theorem StationRec.cAvg_of_four (r : StationRec) (u : Setup) (hu : r.spindle.setup? = some u) (a b c d : Nat)
    (h : r.ring = [a, b, c, d]) : r.cAvg = (a + b + c + d + 2) / 4 := by
  unfold StationRec.cAvg
  rw [hu, h]

/-- The average depends on nothing but the setup and the ring. -/
theorem StationRec.cAvg_congr (r r' : StationRec) (hs : r'.spindle.setup? = r.spindle.setup?) (hr : r'.ring = r.ring) :
    r'.cAvg = r.cAvg := by
  unfold StationRec.cAvg
  rw [hs, hr]

theorem StationRec.cAvg_congr_cycle (r r' : StationRec) (u u' : Setup) (hu : r.spindle.setup? = some u)
    (hu' : r'.spindle.setup? = some u') (hr : r'.ring = r.ring) (hc : u'.cycle = u.cycle) : r'.cAvg = r.cAvg := by
  unfold StationRec.cAvg
  rw [hu, hu', hr]
  dsimp only
  rw [hc]

/-- A full ring is its four intervals (R34). -/
theorem ring_of_length_four (ring : List Nat) (h : ring.length = 4) : ∃ a b c d, ring = [a, b, c, d] := by
  match ring, h with
  | [a, b, c, d], _ => exact ⟨a, b, c, d, rfl⟩

theorem StationRec.cAvg_bounds (r : StationRec) (u : Setup) (hu : r.spindle.setup? = some u) (hl : r.ring.length ≤ 4)
    (hr : ∀ iv ∈ r.ring, 1 ≤ iv ∧ iv ≤ 6000) (h1 : 1 ≤ u.cycle) (h2 : u.cycle ≤ 6000) :
    1 ≤ r.cAvg ∧ r.cAvg ≤ 6000 := by
  by_cases h4 : r.ring.length < 4
  · rw [r.cAvg_of_short u hu h4]
    exact ⟨h1, h2⟩
  · obtain ⟨a, b, c, d, e⟩ := ring_of_length_four r.ring (by omega)
    rw [r.cAvg_of_four u hu a b c d e]
    simp only [e, List.forall_mem_cons] at hr
    omega

theorem nat16_drop (n k : Nat) (h : 2 ≤ k) : (nat16 n).drop k = [] := List.drop_eq_nil_of_le h

theorem nat32_drop (n k : Nat) (h : 4 ≤ k) : (nat32 n).drop k = [] := List.drop_eq_nil_of_le h

theorem ringBytes_drop (l : List Nat) (k : Nat) (h : 8 ≤ k) : (ringBytes l).drop k = [] := List.drop_eq_nil_of_le h

/-- The STATION entry shows the average at offset 74, behind parts of fixed length (R198). -/
theorem State.stationEntry_cAvg (s : State) (i : Station) :
    ((s.stationEntry i).drop 74).take 2 = nat16 (s.station i).cAvg := by
  have htake : (nat16 (s.station i).cAvg).take 2 = nat16 (s.station i).cAvg := rfl
  unfold State.stationEntry
  simp [List.drop_append, List.take_append, List.drop_eq_nil_of_le, nat16_drop, nat32_drop, ringBytes_drop, htake]

/-! ### O35 and O29 -/

/-- Settles O35: the equations of the average by the length of the ring, and the field of the STATION entry. -/
theorem cycleAverageFollowsTheRing : Obligations.CycleAverageFollowsTheRing := by
  refine ⟨fun r u hu => ⟨r.cAvg_of_short u hu, r.cAvg_of_four u hu, ?_, r.cAvg_bounds u hu⟩, fun s i => ?_⟩
  · intro r' u' hu' hr hc
    exact r.cAvg_congr_cycle r' u u' hu hu' hr hc
  · rw [s.tableEntry_station i]
    exact s.stationEntry_cAvg i

theorem exec_partOff (i : Station) (count : BitVec 16) (scrap : Byte) (a : Option (BitVec 32)) (s : State) :
    exec (.partOff i count scrap a) s = .next (s.partOffRequest i count scrap a) := rfl

/-- An advance that is carried only within the range is within it, carried or not. -/
theorem advance_in_range (a : Option (BitVec 32)) (h : ∀ v, a = some v → v.toNat ≤ 400000) :
    ¬400000 < (a.getD 0).toNat := by
  cases a with
  | none => decide
  | some v => exact Nat.not_lt.mpr (h v rfl)

/-- Settles O29: in each case the request answers and leaves the record taken as it is. -/
theorem partOffIsRefusedOrARepeat : Obligations.PartOffIsRefusedOrARepeat := by
  intro s i count scrap a hup
  simp only [exec_partOff]
  refine ⟨fun hacc => ?_, fun acc hacc => ?_⟩
  · rw [State.partOffRequest, s.attached_refused i 0x04#8 ⟨0x41#8, [0x04#8, 1#8, 0#8]⟩ _ hup]
    simp only [State.setStation_station_same, StationRec.taken_spindle, hacc]
    cases (s.station i).spindle.setup? <;> rfl
  · obtain ⟨u, hu⟩ := Spindle.setup?_of_account? _ _ hacc
    refine ⟨fun hs => ?_, fun v hv hs hr => ?_, fun ha hs hc => ?_⟩
    · rw [State.partOffRequest, s.attached_refused i 0x04#8 ⟨0x41#8, [0x04#8, 2#8, 2#8]⟩ _ hup]
      simp only [State.setStation_station_same, StationRec.taken_spindle, hu, hacc, if_pos hs]
      rfl
    · rw [State.partOffRequest, s.attached_refused i 0x04#8 ⟨0x41#8, [0x04#8, 2#8, 3#8]⟩ _ hup]
      have hadv : 400000 < (a.getD 0).toNat := by rw [hv]; exact hr
      simp only [State.setStation_station_same, StationRec.taken_spindle, hu, hacc, if_neg (Nat.not_lt.mpr hs),
        if_pos hadv]
      rfl
    · rw [State.partOffRequest, s.attached_refused i 0x04#8 ⟨0x40#8, [0x04#8]⟩ _ hup]
      simp only [State.setStation_station_same, StationRec.taken_spindle, hu, hacc, if_neg (Nat.not_lt.mpr hs),
        if_neg (advance_in_range a ha), if_pos hc]
      rfl

/-! ### The spindle of a station replaced -/

@[simp] theorem State.setSpindle_station_same (s : State) (i : Station) (p : Spindle) :
    (s.setSpindle i p).station i = { s.station i with spindle := p } :=
  s.modStation_station_same i _

theorem State.setSpindle_station_ne (s : State) (i j : Station) (p : Spindle) (h : j ≠ i) :
    (s.setSpindle i p).station j = s.station j :=
  s.modStation_station_ne i j _ h

@[simp] theorem State.setSpindle_setSpindle (s : State) (i : Station) (p q : Spindle) :
    (s.setSpindle i p).setSpindle i q = s.setSpindle i q := by
  simp [State.setSpindle, State.modStation_eq]

@[simp] theorem State.setSpindle_hasJob (s : State) (i : Station) (p : Spindle) (b : Bool) (j : Station) :
    (s.setSpindle i p).hasJob b j = s.hasJob b j := rfl

@[simp] theorem State.setSpindle_freshNumber (s : State) (i : Station) (p : Spindle) :
    (s.setSpindle i p).freshNumber = s.freshNumber :=
  s.setStation_freshNumber i _

/-! ### Selection and posting of a BAR job (R12, R13, R95) -/

/-- Selection leaves the queue, or writes a slot into the station's queued BAR job (R13). -/
theorem State.select_queue (s : State) (i : Station) :
    (s.select i).queue = s.queue ∨ ∃ j k, s.queuedOf true i = some j ∧
      (s.select i).queue = s.queue.map fun q => if q.number = j.number then { q with slot := some k } else q := by
  unfold State.select
  split
  · exact .inl rfl
  · rename_i j hj
    split
    · exact .inl rfl
    · split
      · rename_i k b hp
        exact .inr ⟨j, k, hj, by simp [State.reserve, State.modQueued, State.informDispatcher]⟩
      · exact .inl (by simp)

/-- Selection never takes back that the dispatcher was informed. -/
theorem State.select_dispatchDue (s : State) (i : Station) (h : s.dispatchDue = true) :
    (s.select i).dispatchDue = true := by
  unfold State.select
  split
  · exact h
  · split
    · exact h
    · split
      · rfl
      · simpa using h

/-- The state in which a posted BAR job selects: the job at the tail, its number taken, the dispatcher informed (R95). -/
def State.joined (s : State) (j : Job) : State :=
  ({ s with queue := s.queue ++ [j], jobCounter := j.number } : State).informDispatcher

theorem State.post_bar (s : State) (c : Nat) (i : Station) :
    s.post .bar c i = (s.joined (s.newJob .bar c i)).select i := rfl

theorem State.post_bar_dispatchDue (s : State) (c : Nat) (i : Station) : (s.post .bar c i).dispatchDue = true := by
  rw [s.post_bar c i]
  exact State.select_dispatchDue _ i rfl

theorem State.post_bar_jobCounter (s : State) (c : Nat) (i : Station) :
    (s.post .bar c i).jobCounter = s.freshNumber := by
  rw [s.post_bar c i, State.select_jobCounter]
  rfl

theorem State.post_bar_queue_length (s : State) (c : Nat) (i : Station) :
    (s.post .bar c i).queue.length = s.queue.length + 1 := by
  rw [s.post_bar c i]
  obtain h | ⟨j, k, -, h⟩ := (s.joined (s.newJob .bar c i)).select_queue i
  · rw [h]; simp [State.joined, State.informDispatcher]
  · rw [h]; simp [State.joined, State.informDispatcher]

/-- A station without a BAR job finds the one it posts. -/
theorem State.joined_queuedOf (s : State) (c : Nat) (i : Station) (h : s.hasJob true i = false) :
    (s.joined (s.newJob .bar c i)).queuedOf true i = some (s.newJob .bar c i) := by
  have hq : s.queue.find? (jobIs true i) = none := by
    simp only [State.hasJob, Bool.or_eq_false_iff, Option.isSome_eq_false_iff, Option.isNone_iff_eq_none] at h
    exact h.1
  have hj : jobIs true i (s.newJob .bar c i) = true := by simp [jobIs, State.newJob, Job.isBar]
  simp [State.queuedOf, State.joined, State.informDispatcher, List.find?_append, hq, hj]

/-- The job a station without a BAR job posts stands at the tail, with a slot if one was found (R13, R95). -/
theorem State.post_bar_queue (s : State) (c : Nat) (i : Station) (h : s.hasJob true i = false)
    (hn : ∀ j ∈ s.queue, j.number ≠ s.freshNumber) :
    ∃ k, (s.post .bar c i).queue = s.queue ++ [{ s.newJob .bar c i with slot := k }] := by
  rw [s.post_bar c i]
  obtain hq | ⟨j, k, hj, hq⟩ := (s.joined (s.newJob .bar c i)).select_queue i
  · exact ⟨none, hq⟩
  · rw [s.joined_queuedOf c i h] at hj
    obtain rfl := Option.some.inj hj
    have hmap : (s.queue.map fun q => if q.number = s.freshNumber then { q with slot := some k } else q) = s.queue :=
      (List.map_congr_left fun q hq => if_neg (hn q hq)).trans (List.map_id' s.queue)
    have hlast : [s.newJob .bar c i].map (fun q => if q.number = s.freshNumber then { q with slot := some k } else q) =
        [{ s.newJob .bar c i with slot := some k }] := by
      simp [State.newJob]
    exact ⟨some k, hq.trans (List.map_append.trans (congr (congrArg HAppend.hAppend hmap) hlast))⟩

/-! ### The lead evaluation (R37 to R40) -/

/-- The lead does not depend on the spindle's state or account. -/
theorem State.leadOf_setSpindle (s : State) (i : Station) (p : Spindle) (u : Setup)
    (h : p.setup? = (s.station i).spindle.setup?) : (s.setSpindle i p).leadOf i u = s.leadOf i u := by
  have havg : ((s.setSpindle i p).station i).cAvg = (s.station i).cAvg :=
    StationRec.cAvg_congr _ _ (by simp [h]) (by simp)
  simp only [State.leadOf, havg]
  simp [State.deliveryEstimate, State.urgentOthers]

theorem State.leadOf_bounds (s : State) (i : Station) (u : Setup) : 1 ≤ s.leadOf i u ∧ s.leadOf i u ≤ 63 := by
  simp only [State.leadOf]
  omega

/-- The spindle that steps 1 and 2 of a lead evaluation leave, with account `a`: LOW without a BAR job is RUNNING again
(R39). -/
def State.leadStanding (s : State) (i : Station) (u : Setup) (a : Account) : Spindle :=
  if (s.station i).spindle.barState = .ending then .ending u a
  else if (s.station i).spindle.barState = .low ∧ s.hasJob true i = true then .low u a
  else .running u a

/-- The spindle after step 4 of a lead evaluation: ENDING without parts left (R40). -/
def Spindle.runOut : Spindle → Spindle
  | .running u a => if a.partsLeft = 0 then .ending u a else .running u a
  | .low u a => if a.partsLeft = 0 then .ending u a else .low u a
  | p => p

/-- The trigger of step 3 (R39): a BAR job is posted for a station with account `a`. -/
def State.leadPosts (s : State) (i : Station) (a : Account) : Prop :=
  (s.station i).spindle.barState ≠ .ending ∧ (s.station i).cradle = none ∧ s.hasJob true i = false ∧
    a.partsLeft ≤ a.lead

/-- Step 1 moves only a LOW station without a BAR job (R39). -/
theorem State.leadReturn_of_stays (s : State) (i : Station)
    (h : (s.station i).spindle.barState = .low → s.hasJob true i = true) : s.leadReturn i = s := by
  unfold State.leadReturn
  split
  · rename_i u a hp
    exact if_pos (h (by rw [hp]; rfl))
  · rfl

theorem State.leadReturn_of_low (s : State) (i : Station) (u : Setup) (a : Account)
    (hp : (s.station i).spindle = .low u a) (hj : s.hasJob true i = false) :
    s.leadReturn i = s.setSpindle i (.running u a) := by
  simp [State.leadReturn, hp, hj]

theorem State.leadRecompute_of_account (s : State) (i : Station) (u : Setup) (a : Account)
    (hu : (s.station i).spindle.setup? = some u) (ha : (s.station i).spindle.account? = some a) :
    s.leadRecompute i = s.setSpindle i ((s.station i).spindle.withAccount { a with lead := s.leadOf i u }) := by
  simp only [State.leadRecompute, hu, ha]

theorem State.leadReturn_recompute (s : State) (i : Station) (u : Setup) (a : Account)
    (hu : (s.station i).spindle.setup? = some u) (ha : (s.station i).spindle.account? = some a) :
    (s.leadReturn i).leadRecompute i = s.setSpindle i (s.leadStanding i u { a with lead := s.leadOf i u }) := by
  have stays (h : (s.station i).spindle.barState = .low → s.hasJob true i = true) :
      (s.leadReturn i).leadRecompute i =
        s.setSpindle i ((s.station i).spindle.withAccount { a with lead := s.leadOf i u }) := by
    rw [s.leadReturn_of_stays i h, s.leadRecompute_of_account i u a hu ha]
  obtain hp | hp | hp := Spindle.cases_of_account? _ u a hu ha
  · rw [stays fun h => by rw [hp] at h; cases h]
    simp [State.leadStanding, hp, Spindle.withAccount, Spindle.barState]
  · cases hj : s.hasJob true i with
    | true =>
      rw [stays fun _ => hj]
      simp [State.leadStanding, hp, hj, Spindle.withAccount, Spindle.barState]
    | false =>
      have hl := s.leadOf_setSpindle i (.running u a) u (by rw [hu]; rfl)
      rw [s.leadReturn_of_low i u a hp hj, State.leadRecompute_of_account _ i u a (by simp [Spindle.setup?])
        (by simp [Spindle.account?]), hl]
      simp [State.leadStanding, hp, hj, Spindle.withAccount, Spindle.barState]
  · rw [stays fun h => by rw [hp] at h; cases h]
    simp [State.leadStanding, hp, Spindle.withAccount, Spindle.barState]

theorem State.leadEnding_setSpindle (s : State) (i : Station) (p : Spindle) :
    (s.setSpindle i p).leadEnding i = s.setSpindle i p.runOut := by
  cases p with
  | running u a | low u a => by_cases h : a.partsLeft = 0 <;> simp [State.leadEnding, Spindle.runOut, h]
  | unset | noBar u | starved u | ending u a => simp [State.leadEnding, Spindle.runOut]

theorem State.leadTrigger_of_posts (s : State) (i : Station) (u : Setup) (a : Account) (h : s.leadPosts i a) :
    (s.setSpindle i (s.leadStanding i u a)).leadTrigger i =
      ((s.setSpindle i (.running u a)).post .bar 2 i).setSpindle i (.low u a) := by
  obtain ⟨hne, hc, hj, hk⟩ := h
  simp [State.leadTrigger, State.leadStanding, hne, hc, hj, hk]

theorem State.leadTrigger_of_not_posts (s : State) (i : Station) (u : Setup) (a : Account) (h : ¬s.leadPosts i a) :
    (s.setSpindle i (s.leadStanding i u a)).leadTrigger i = s.setSpindle i (s.leadStanding i u a) := by
  unfold State.leadTrigger
  split
  · rename_i u' a' hp
    rw [State.setSpindle_station_same] at hp
    simp only [State.leadStanding] at hp
    split at hp
    · cases hp
    · split at hp
      · cases hp
      · rename_i hne _
        cases hp
        refine if_neg fun ⟨hc, hj, hk⟩ => h ⟨hne, ?_, ?_, hk⟩
        · simpa using hc
        · simpa using hj
  · rfl

/-- A lead evaluation that posts no BAR job replaces the spindle and nothing else. -/
theorem State.leadEvaluate_of_not_posts (s : State) (i : Station) (u : Setup) (a : Account)
    (hu : (s.station i).spindle.setup? = some u) (ha : (s.station i).spindle.account? = some a)
    (h : ¬s.leadPosts i { a with lead := s.leadOf i u }) :
    s.leadEvaluate i = s.setSpindle i (s.leadStanding i u { a with lead := s.leadOf i u }).runOut := by
  rw [State.leadEvaluate, s.leadReturn_recompute i u a hu ha, s.leadTrigger_of_not_posts i u _ h,
    s.leadEnding_setSpindle]

/-- A lead evaluation that posts a BAR job leaves the station LOW, or ENDING without parts left. -/
theorem State.leadEvaluate_of_posts (s : State) (i : Station) (u : Setup) (a : Account)
    (hu : (s.station i).spindle.setup? = some u) (ha : (s.station i).spindle.account? = some a)
    (h : s.leadPosts i { a with lead := s.leadOf i u }) :
    s.leadEvaluate i = ((s.setSpindle i (.running u { a with lead := s.leadOf i u })).post .bar 2 i).setSpindle i
      (Spindle.low u { a with lead := s.leadOf i u }).runOut := by
  rw [State.leadEvaluate, s.leadReturn_recompute i u a hu ha, s.leadTrigger_of_posts i u _ h,
    State.leadEnding_setSpindle]

/-- Settles O36: a lead evaluation either replaces the spindle alone or posts a BAR job. -/
theorem leadEvaluationPostsTheNextBar : Obligations.LeadEvaluationPostsTheNextBar := by
  intro s i u acc hu ha ahead delivery k acc' posts t
  have hk : k = s.leadOf i u := by
    simp only [k, delivery, ahead, State.leadOf, State.deliveryEstimate, State.urgentOthers, ne_eq, decide_not]
  have hacc : acc' = { acc with lead := s.leadOf i u } := by simp only [acc', hk]
  have hposts : posts ↔ s.leadPosts i acc' := Iff.rfl
  have quiet (h : ¬posts) : t = s.setSpindle i (s.leadStanding i u acc').runOut := by
    rw [hposts, hacc] at h
    rw [hacc]
    exact s.leadEvaluate_of_not_posts i u acc hu ha h
  refine ⟨fun he => ?_, fun hne hp => ?_, fun hp => ?_⟩
  · rw [quiet fun hp => hp.1 he, State.leadStanding, if_pos he]
    rfl
  · rw [quiet hp, State.leadStanding, if_neg hne]
    split <;> rfl
  · have ht : t = ((s.setSpindle i (.running u acc')).post .bar 2 i).setSpindle i (Spindle.low u acc').runOut := by
      rw [hposts, hacc] at hp
      rw [hacc]
      exact s.leadEvaluate_of_posts i u acc hu ha hp
    obtain ⟨-, -, hj, -⟩ := hp
    rw [ht]
    refine ⟨by simp [Spindle.runOut, acc'], by simp [State.post_bar_dispatchDue], by simp [State.post_bar_jobCounter],
      by simp [State.post_bar_queue_length], fun hn => ?_⟩
    obtain ⟨slot, hq⟩ := (s.setSpindle i (.running u acc')).post_bar_queue 2 i (by simpa using hj)
        (by simpa using hn)
    exact ⟨_, by simpa using hq, by simp [State.newJob], rfl, rfl, rfl, rfl, rfl, rfl, rfl⟩

/-! ### Records of the attention set that an operation leaves (R173, R174) -/

theorem State.attOf_congr (s t : State) (h : t.attention = s.attention) (c : Cause) (sc : Scope) :
    t.attOf c sc = s.attOf c sc := by
  rw [State.attOf, State.attOf, h]

/-- The pending record of a cause and scope is of that cause and scope. -/
theorem State.attOf_isOf (s : State) (c : Cause) (sc : Scope) (r : AttRec) (h : s.attOf c sc = some r) :
    r.cause = c ∧ r.scope = sc :=
  (isOf_iff c sc r).mp (List.find?_some h)

/-- A raised event's record has the detail raised and the time of now (R173). -/
theorem State.attOf_raiseEvent_same (s : State) (c : Cause) (sc : Scope) (d : Nat) :
    ∃ x, (s.raiseEvent c sc d).attOf c sc = some x ∧ x.detail = sat16 d ∧ x.last = s.clock := by
  unfold State.raiseEvent
  split
  · exact ⟨_, find_attInsert_same ⟨c, sc, sat16 d, 1, s.clock, false⟩ s.attention, rfl, rfl⟩
  · rename_i r hr
    obtain ⟨rfl, rfl⟩ := s.attOf_isOf c sc r hr
    exact ⟨_, find_attInsert_same { r with detail := sat16 d, count := min (r.count + 1) 255, last := s.clock }
      s.attention, rfl, rfl⟩

theorem State.attOf_raiseEvent_ne (s : State) (c c' : Cause) (sc sc' : Scope) (d : Nat) (h : ¬(c = c' ∧ sc = sc')) :
    (s.raiseEvent c sc d).attOf c' sc' = s.attOf c' sc' := by
  unfold State.raiseEvent
  split
  · exact find_attInsert_other _ _ _ _ h
  · rename_i r hr
    obtain ⟨rfl, rfl⟩ := s.attOf_isOf c sc r hr
    exact find_attInsert_other _ _ _ _ h

theorem State.attOf_raiseCondition_ne (s : State) (c c' : Cause) (sc sc' : Scope) (d : Nat) (h : c ≠ c') :
    (s.raiseCondition c sc d).attOf c' sc' = s.attOf c' sc' := by
  unfold State.raiseCondition
  split
  · exact find_attInsert_other _ _ _ _ fun hc => h hc.1
  · rfl

theorem State.attOf_holdCondition_ne (s : State) (c c' : Cause) (sc sc' : Scope) (d : Nat) (h : c ≠ c') :
    (s.holdCondition c sc d).attOf c' sc' = s.attOf c' sc' := by
  unfold State.holdCondition
  split
  · exact find_attInsert_other _ _ _ _ fun hc => h hc.1
  · rename_i r hr
    obtain ⟨rfl, rfl⟩ := s.attOf_isOf c sc r hr
    exact find_attInsert_other _ _ _ _ fun hc => h hc.1

theorem State.attOf_endCondition_ne (s : State) (c c' : Cause) (sc sc' : Scope) (h : c ≠ c') :
    (s.endCondition c sc).attOf c' sc' = s.attOf c' sc' := by
  simp only [State.attOf, State.endCondition, State.setAttention_attention, List.find?_filter]
  congr 1
  funext r
  simp only [AttRec.isOf, Bool.and_eq_true, Bool.not_eq_true', decide_eq_true_eq]
  by_cases hr : r.cause = c'
  · subst hr
    have hc : ¬r.cause = c := fun e => h e.symm
    simp [hc]
  · simp [hr]

section Events

/-! The three conditions that postings and dispatches test are no events, so these leave the events' records alone. -/

variable (c : Cause) (sc : Scope) (hc : c.isCondition = false)
include hc

theorem Cause.ne_of_event (c' : Cause) (h : c'.isCondition = true) : c' ≠ c := by
  rintro rfl
  rw [h] at hc
  cases hc

theorem State.testPool_attOf_event (s : State) : s.testPool.attOf c sc = s.attOf c sc := by
  have hse := Cause.ne_of_event c hc .standEmpty rfl
  have hof := Cause.ne_of_event c hc .outboundFull rfl
  simp only [State.testPool]
  split <;> split <;>
    simp only [State.attOf_holdCondition_ne _ _ _ _ _ _ hse, State.attOf_holdCondition_ne _ _ _ _ _ _ hof,
      State.attOf_endCondition_ne _ _ _ _ _ hse, State.attOf_endCondition_ne _ _ _ _ _ hof]

theorem State.testDeparture_attOf_event (s : State) (j : Job) : (s.testDeparture j).attOf c sc = s.attOf c sc := by
  have hso := Cause.ne_of_event c hc .stockOut rfl
  rw [State.testDeparture, State.testPool_attOf_event c sc hc, State.testStockOut]
  split
  · rfl
  · rw [State.attOf_endCondition_ne _ _ _ _ _ hso]

theorem State.select_attOf_event (s : State) (i : Station) : (s.select i).attOf c sc = s.attOf c sc := by
  have hso := Cause.ne_of_event c hc .stockOut rfl
  unfold State.select
  split
  · rfl
  · split
    · rfl
    · split
      · exact State.attOf_endCondition_ne _ _ _ _ _ hso
      · exact State.attOf_raiseCondition_ne _ _ _ _ _ _ hso

theorem State.post_attOf_event (s : State) (k : JobKind) (n : Nat) (i : Station) :
    (s.post k n i).attOf c sc = s.attOf c sc := by
  simp only [State.post]
  split
  · rw [State.select_attOf_event c sc hc]
    rfl
  · rw [State.testPool_attOf_event c sc hc]
    rfl

theorem State.dispatch_attOf_event (s : State) (j : Job) : (s.dispatch j).attOf c sc = s.attOf c sc := by
  simp only [State.dispatch]
  rw [State.attOf_congr _ _ (State.startJob_attention _ _), State.attOf_congr _ _ (State.notify_attention _ _ _),
    State.testDeparture_attOf_event c sc hc]
  rfl

theorem State.settle_attOf_event (s : State) : s.settle.attOf c sc = s.attOf c sc := by
  unfold State.settle
  split
  · unfold State.evaluate
    split
    · split
      · rw [State.dispatch_attOf_event c sc hc]
        rfl
      · rfl
    · rfl
  · rfl

theorem State.leadEvaluate_attOf_event (s : State) (i : Station) (u : Setup) (a : Account)
    (hu : (s.station i).spindle.setup? = some u) (ha : (s.station i).spindle.account? = some a) :
    (s.leadEvaluate i).attOf c sc = s.attOf c sc := by
  by_cases hp : s.leadPosts i { a with lead := s.leadOf i u }
  · rw [s.leadEvaluate_of_posts i u a hu ha hp, State.attOf_congr _ _ (State.setSpindle_attention _ _ _),
      State.post_attOf_event c sc hc, State.attOf_congr _ _ (State.setSpindle_attention _ _ _)]
  · rw [s.leadEvaluate_of_not_posts i u a hu ha hp, State.attOf_congr _ _ (State.setSpindle_attention _ _ _)]

end Events

/-! ### The station's record after a lead evaluation -/

theorem Spindle.runOut_setup? (p : Spindle) : p.runOut.setup? = p.setup? := by
  cases p with
  | running u a | low u a => simp only [Spindle.runOut]; split <;> rfl
  | unset | noBar u | starved u | ending u a => rfl

theorem Spindle.runOut_account? (p : Spindle) : p.runOut.account? = p.account? := by
  cases p with
  | running u a | low u a => simp only [Spindle.runOut]; split <;> rfl
  | unset | noBar u | starved u | ending u a => rfl

theorem State.leadStanding_setup? (s : State) (i : Station) (u : Setup) (a : Account) :
    (s.leadStanding i u a).setup? = some u := by
  unfold State.leadStanding
  repeat' split
  all_goals rfl

theorem State.leadStanding_account? (s : State) (i : Station) (u : Setup) (a : Account) :
    (s.leadStanding i u a).account? = some a := by
  unfold State.leadStanding
  repeat' split
  all_goals rfl

/-- A lead evaluation changes the bar state and K, and nothing else of the station's record. -/
theorem State.leadEvaluate_station_same (s : State) (i : Station) (u : Setup) (a : Account)
    (hu : (s.station i).spindle.setup? = some u) (ha : (s.station i).spindle.account? = some a) :
    ∃ p : Spindle, p.setup? = some u ∧ p.account? = some { a with lead := s.leadOf i u } ∧
      (s.leadEvaluate i).station i = { s.station i with spindle := p } := by
  by_cases hp : s.leadPosts i { a with lead := s.leadOf i u }
  · refine ⟨(Spindle.low u { a with lead := s.leadOf i u }).runOut, Spindle.runOut_setup? _,
      Spindle.runOut_account? _, ?_⟩
    rw [s.leadEvaluate_of_posts i u a hu ha hp]
    simp
  · refine ⟨_, (Spindle.runOut_setup? _).trans (s.leadStanding_setup? i u _),
      (Spindle.runOut_account? _).trans (s.leadStanding_account? i u _), ?_⟩
    rw [s.leadEvaluate_of_not_posts i u a hu ha hp, State.setSpindle_station_same]

theorem State.leadEvaluate_station_ne (s : State) (i j : Station) (u : Setup) (a : Account)
    (hu : (s.station i).spindle.setup? = some u) (ha : (s.station i).spindle.account? = some a) (h : j ≠ i) :
    (s.leadEvaluate i).station j = s.station j := by
  by_cases hp : s.leadPosts i { a with lead := s.leadOf i u }
  · rw [s.leadEvaluate_of_posts i u a hu ha hp, State.setSpindle_station_ne _ _ _ _ h, State.post_station,
      State.setSpindle_station_ne _ _ _ _ h]
  · rw [s.leadEvaluate_of_not_posts i u a hu ha hp, State.setSpindle_station_ne _ _ _ _ h]

/-! ### The evaluation at the end of an event: lines and pool -/

theorem State.notify_station_line (s : State) (i : Station) (f : Frame) (j : Station) :
    ∃ rest, (s.notify i f).station j = { s.station j with tx := (s.station j).tx ++ rest } := by
  by_cases hp : (s.station i).present = true
  · rw [s.notify_present i f hp, State.setStation_station]
    split
    · rename_i h
      subst h
      exact ⟨[f], rfl⟩
    · exact ⟨[], by simp⟩
  · exact ⟨[], by simp [s.notify_absent i f (by simpa using hp)]⟩

theorem State.dispatch_station_line (s : State) (job : Job) (j : Station) :
    ∃ rest, (s.dispatch job).station j = { s.station j with tx := (s.station j).tx ++ rest } := by
  simp only [State.dispatch, State.startJob_station]
  obtain ⟨rest, h⟩ := State.notify_station_line _ job.station _ j
  exact ⟨rest, h.trans (by simp)⟩

/-- The evaluation that ends an event appends to lines and changes nothing else of a station (R106, R109). -/
theorem State.settle_station_line (s : State) (j : Station) :
    ∃ rest, s.settle.station j = { s.station j with tx := (s.station j).tx ++ rest } := by
  have stays : ∃ rest, s.station j = { s.station j with tx := (s.station j).tx ++ rest } := ⟨[], by simp⟩
  unfold State.settle
  split
  · unfold State.evaluate
    split
    · split
      · exact State.dispatch_station_line _ _ j
      · exact stays
    · exact stays
  · exact stays

theorem Pool.reserveFor_places (p : Pool) (k : JobKind) :
    (p.reserveFor k).empties = p.empties ∧ (p.reserveFor k).outFull = p.outFull := by
  cases k <;> exact ⟨rfl, rfl⟩

/-- A dispatch takes reservations; the totes at the stand and in the lane stay (R109). -/
theorem State.dispatch_places (s : State) (j : Job) :
    (s.dispatch j).pool.empties = s.pool.empties ∧ (s.dispatch j).pool.outFull = s.pool.outFull := by
  have h : (s.dispatch j).pool = s.pool.reserveFor j.kind := by simp [State.dispatch]
  rw [h]
  exact s.pool.reserveFor_places j.kind

theorem State.settle_places (s : State) :
    s.settle.pool.empties = s.pool.empties ∧ s.settle.pool.outFull = s.pool.outFull := by
  unfold State.settle
  split
  · unfold State.evaluate
    split
    · split
      · exact State.dispatch_places _ _
      · exact ⟨rfl, rfl⟩
    · exact ⟨rfl, rfl⟩
  · exact ⟨rfl, rfl⟩

/-! ### The tote operations at one station (R73 to R78) -/

/-- What every operation on the tote of station `i` keeps: of the station's record all but tote and line, the other
stations, the pool, and the records of all events but OVERFILL. -/
structure State.ToteStep (i : Station) (s t : State) : Prop where
  clock : t.clock = s.clock
  pool : t.pool = s.pool
  load : t.load = s.load
  supervisor : t.supervisor = s.supervisor
  record : ∃ w l, t.station i = { s.station i with tote := w, tx := l }
  others : ∀ j, j ≠ i → t.station j = s.station j
  events : ∀ c sc, c.isCondition = false → c ≠ .overfill → t.attOf c sc = s.attOf c sc

theorem State.ToteStep.refl (i : Station) (s : State) : s.ToteStep i s :=
  ⟨rfl, rfl, rfl, rfl, ⟨_, _, rfl⟩, fun _ _ => rfl, fun _ _ _ _ => rfl⟩

theorem State.ToteStep.trans {i : Station} {s t v : State} (h1 : State.ToteStep i s t) (h2 : State.ToteStep i t v) :
    State.ToteStep i s v where
  clock := h2.clock.trans h1.clock
  pool := h2.pool.trans h1.pool
  load := h2.load.trans h1.load
  supervisor := h2.supervisor.trans h1.supervisor
  record := by
    obtain ⟨w, l, hr⟩ := h1.record
    obtain ⟨w', l', hr'⟩ := h2.record
    exact ⟨w', l', by rw [hr', hr]⟩
  others := fun j hj => (h2.others j hj).trans (h1.others j hj)
  events := fun c sc hc ho => (h2.events c sc hc ho).trans (h1.events c sc hc ho)

/-- An operation that leaves stations, pool and events is a tote step. -/
theorem State.ToteStep.of_stations (i : Station) (s t : State) (clock : t.clock = s.clock) (pool : t.pool = s.pool)
    (load : t.load = s.load) (supervisor : t.supervisor = s.supervisor) (stations : ∀ j, t.station j = s.station j)
    (events : ∀ c sc, c.isCondition = false → c ≠ .overfill → t.attOf c sc = s.attOf c sc) : s.ToteStep i t :=
  ⟨clock, pool, load, supervisor, ⟨_, _, stations i⟩, fun j _ => stations j, events⟩

theorem State.toteStep_setTote (s : State) (i : Station) (w : Tote) : s.ToteStep i (s.setTote i w) where
  clock := by simp
  pool := by simp
  load := by simp
  supervisor := by simp
  record := ⟨w, (s.station i).tx, s.modStation_station_same i _⟩
  others := fun j hj => s.modStation_station_ne i j _ hj
  events := fun c sc _ _ => State.attOf_congr _ _ (by simp) c sc

theorem State.toteStep_notify (s : State) (i : Station) (f : Frame) : s.ToteStep i (s.notify i f) where
  clock := by simp
  pool := by simp
  load := by simp
  supervisor := by simp
  record := by
    obtain ⟨rest, h⟩ := s.notify_station_line i f i
    exact ⟨(s.station i).tote, _, h⟩
  others := fun j hj => by
    unfold State.notify
    split
    · exact s.modStation_station_ne i j _ hj
    · rfl
  events := fun c sc _ _ => State.attOf_congr _ _ (by simp) c sc

theorem State.toteStep_post (s : State) (i : Station) (k : JobKind) (n : Nat) : s.ToteStep i (s.post k n i) :=
  .of_stations i s _ (by simp) (by simp) (by simp) (by simp) (by simp) fun c sc hc _ =>
    s.post_attOf_event c sc hc k n i

theorem State.toteStep_raiseClass (s : State) (i : Station) (b : Bool) (n : Nat) :
    s.ToteStep i (s.raiseClass b i n) :=
  .of_stations i s _ (by simp) (by simp) (by simp) (by simp) (by simp) fun c sc _ _ =>
    State.attOf_congr _ _ (by simp) c sc

theorem State.toteStep_overfill (s : State) (i : Station) (n : Nat) :
    s.ToteStep i (s.raiseEvent .overfill (.station i) n) :=
  .of_stations i s _ (by simp) (by simp) (by simp) (by simp) (by simp) fun c sc _ ho =>
    s.attOf_raiseEvent_ne _ c _ sc n fun h => ho h.1.symm

theorem State.toteStep_postAttached (s : State) (i : Station) (k : JobKind) : s.ToteStep i (s.postAttached k i) := by
  unfold State.postAttached
  split
  · exact .refl i s
  · exact s.toteStep_post i k 1

theorem State.toteStep_toteFills (s : State) (i : Station) : s.ToteStep i (s.toteFills i) := by
  unfold State.toteFills
  refine .trans ?_ (State.toteStep_setTote _ i _)
  refine (s.toteStep_notify i Frame.toteHoldFull).trans ?_
  split
  · exact State.toteStep_raiseClass _ i false 1
  · exact State.toteStep_post _ i .swap 1

theorem State.toteStep_exchangeLead (s : State) (i : Station) : s.ToteStep i (s.exchangeLead i) := by
  unfold State.exchangeLead
  refine .trans ?_ (State.toteStep_setTote _ i _)
  split
  · exact .refl i s
  · exact s.toteStep_post i .swap 3

theorem State.toteStep_countPart (s : State) (i : Station) (u : Setup) : s.ToteStep i (s.countPart i u).1 := by
  unfold State.countPart
  split
  · exact .refl i s
  · exact .refl i s
  · rename_i n _
    dsimp only
    split
    · exact (s.toteStep_setTote i _).trans (State.toteStep_toteFills _ i)
    · split
      · exact (s.toteStep_setTote i _).trans (State.toteStep_exchangeLead _ i)
      · exact s.toteStep_setTote i _
  · rename_i n _
    dsimp only
    split
    · exact (s.toteStep_setTote i _).trans (State.toteStep_toteFills _ i)
    · exact s.toteStep_setTote i _

theorem State.toteStep_countParts (i : Station) (u : Setup) (n : Nat) :
    ∀ (s : State) (held : Nat), s.ToteStep i (s.countParts i u held n).1 := by
  induction n with
  | zero => exact fun s _ => .refl i s
  | succ n ih => exact fun s held => (s.toteStep_countPart i u).trans (ih _ _)

theorem State.toteStep_toteEvaluate (s : State) (i : Station) : s.ToteStep i (s.toteEvaluate i) := by
  unfold State.toteEvaluate
  extract_lets s1 s2 s3
  have h1 : s.ToteStep i s1 := by
    simp only [s1]
    split
    · split
      · exact .refl i s
      · exact s.toteStep_setTote i _
    · exact .refl i s
  have h2 : s1.ToteStep i s2 := by
    simp only [s2]
    split
    · split
      · exact s1.toteStep_exchangeLead i
      · exact .refl i s1
    · exact .refl i s1
  have h3 : s2.ToteStep i s3 := by
    simp only [s3]
    split
    · split
      · exact .refl i s2
      · exact (s2.toteStep_notify i _).trans (State.toteStep_postAttached _ i .swap)
    · exact .refl i s2
  refine (h1.trans h2).trans (h3.trans ?_)
  split
  · split
    · exact .refl i s3
    · exact (s3.toteStep_notify i _).trans (State.toteStep_postAttached _ i .place)
  · exact .refl i s3

theorem State.toteStep_fillTote (s : State) (i : Station) (u : Setup) (parts : Nat) :
    s.ToteStep i (s.fillTote i u parts) := by
  unfold State.fillTote
  refine .trans ?_ (State.toteStep_toteEvaluate _ i)
  refine (State.toteStep_countParts i u parts s 0).trans ?_
  split
  · exact State.toteStep_overfill _ i _
  · exact .refl i _

/-! ### Cycle ring and drift after a part (R28, R29, R34, R35) -/

theorem StationRec.ringAfter_first (r : StationRec) (now : Time) (h : r.lastPart = none) : r.ringAfter now = r.ring := by
  rw [StationRec.ringAfter, h]

theorem StationRec.ringAfter_discarded (r : StationRec) (now l : Time) (h : r.lastPart = some l)
    (hd : 6000 < max 1 (now - l).toNat ∨ r.ring.length = 4 ∧ 3 * r.cAvg < max 1 (now - l).toNat) :
    r.ringAfter now = r.ring := by
  rw [StationRec.ringAfter, h]
  dsimp only [elapsed]
  split
  · rfl
  · rename_i hlong
    rw [if_pos (hd.resolve_left hlong)]

theorem StationRec.ringAfter_kept (r : StationRec) (now l : Time) (h : r.lastPart = some l)
    (hd : ¬(6000 < max 1 (now - l).toNat ∨ r.ring.length = 4 ∧ 3 * r.cAvg < max 1 (now - l).toNat))
    (hl : r.ring.length ≤ 4) :
    r.ringAfter now = (if r.ring.length = 4 then r.ring.drop 1 else r.ring) ++ [max 1 (now - l).toNat] := by
  rw [StationRec.ringAfter, h]
  dsimp only [elapsed]
  rw [if_neg fun hlong => hd (.inl hlong), if_neg fun hfull => hd (.inr hfull), ringAppend]
  by_cases h4 : r.ring.length = 4
  · rw [if_neg (by omega), if_pos h4]
  · rw [if_pos (by omega), if_neg h4]

/-- The drift count and flag after a part with an advance (R28, R29). -/
def driftAfter (pitch tol : Nat) (advance : Option Nat) (drift : Nat) (flag : Bool) : Nat × Bool :=
  match advance with
  | none => (drift, flag)
  | some a =>
    if outsideWindow pitch tol a then if drift = 2 then (0, true) else (drift + 1, flag) else (0, false)

theorem State.countDrift_station_same (s : State) (i : Station) (pitch : Nat) (advance : Option Nat) :
    (s.countDrift i pitch advance).station i = { s.station i with
      drift := (driftAfter pitch s.params.advanceTol advance (s.station i).drift (s.station i).driftFlag).1
      driftFlag := (driftAfter pitch s.params.advanceTol advance (s.station i).drift (s.station i).driftFlag).2 } := by
  cases advance with
  | none => rfl
  | some a =>
    simp only [State.countDrift, driftAfter, Nat.reduceEqDiff]
    split
    · split <;> simp
    · simp

theorem State.countDrift_frame (s : State) (i : Station) (pitch : Nat) (advance : Option Nat) :
    s.countDrift i pitch advance = { s with
      stations := (s.countDrift i pitch advance).stations
      attention := (s.countDrift i pitch advance).attention } := by
  unfold State.countDrift
  repeat' split
  all_goals apply State.ext_of_fields <;> simp

theorem State.countDrift_station_ne (s : State) (i j : Station) (pitch : Nat) (advance : Option Nat) (h : j ≠ i) :
    (s.countDrift i pitch advance).station j = s.station j := by
  unfold State.countDrift
  repeat' split
  all_goals simp [State.modStation_station_ne, h]

/-- The third advance outside the window raises FEED_DRIFT with the advance (R28). -/
theorem State.countDrift_attOf_third (s : State) (i : Station) (pitch a : Nat)
    (ho : outsideWindow pitch s.params.advanceTol a = true) (h2 : (s.station i).drift = 2) :
    ∃ x, (s.countDrift i pitch (some a)).attOf .feedDrift (.station i) = some x ∧ x.detail = sat16 a ∧
      x.last = s.clock := by
  simp only [State.countDrift, if_pos ho, h2, if_true]
  exact State.attOf_raiseEvent_same _ _ _ a

theorem State.countDrift_attOf_ne (s : State) (i : Station) (pitch : Nat) (advance : Option Nat) (c : Cause) (sc : Scope)
    (hc : c ≠ .feedDrift) : (s.countDrift i pitch advance).attOf c sc = s.attOf c sc := by
  cases advance with
  | none => rfl
  | some a =>
    simp only [State.countDrift]
    split
    · split
      · exact State.attOf_raiseEvent_ne _ _ _ _ _ _ fun h => hc h.1.symm
      · rfl
    · rfl

/-! ### A taken PART_OFF (R26) -/

/-- A taken PART_OFF up to the tote: cycle interval, debits and drift, parts made and N, ACCOUNT_INEXACT and total parts
(R26). -/
def State.debitPart (s : State) (i : Station) (u : Setup) (acc : Account) (c : Nat) (advance : Option Nat) : State :=
  let r := s.station i
  let isEnding := decide (r.spindle.barState = .ending)
  let d := debitOf u.pitch s.params.advanceTol advance
  let s1 := s.modStation i fun q => { q with ring := r.ringAfter s.clock, lastPart := some s.clock }
  let s2 := s1.countDrift i u.pitch advance
  let s3 := s2.setSpindle i ((s2.station i).spindle.withAccount (acc.afterPart u c d isEnding))
  let s4 := if acc.partInexact u c d isEnding then s3.raiseEvent .accountInexact (.station i) c else s3
  s4.modStation i fun q => { q with totalParts := sat32 (q.totalParts + (c - acc.made)) }

/-- A taken PART_OFF is its debits, the parts handed to the tote and the lead evaluation (R26). -/
theorem State.takePart_eq (s : State) (i : Station) (u : Setup) (acc : Account) (c : Nat) (scrap : Bool)
    (advance : Option Nat) : s.takePart i u acc c scrap advance =
      ((s.debitPart i u acc c advance).fillTote i u (if scrap then c - acc.made - 1 else c - acc.made)).leadEvaluate i :=
  rfl

/-- The account after a taken PART_OFF at station `i`, before its lead is evaluated. -/
def State.accountAfter (s : State) (i : Station) (u : Setup) (acc : Account) (c : Nat) (advance : Option Nat) : Account :=
  acc.afterPart u c (debitOf u.pitch s.params.advanceTol advance) (decide ((s.station i).spindle.barState = .ending))

/-- A taken PART_OFF at station `i` has a cause of inexactness (R31). -/
def State.partInexactAt (s : State) (i : Station) (u : Setup) (acc : Account) (c : Nat) (advance : Option Nat) : Bool :=
  acc.partInexact u c (debitOf u.pitch s.params.advanceTol advance) (decide ((s.station i).spindle.barState = .ending))

section DebitPart

variable (s : State) (i : Station) (u : Setup) (acc : Account) (c : Nat) (advance : Option Nat)

theorem State.debitPart_station_same :
    (s.debitPart i u acc c advance).station i = { s.station i with
      ring := (s.station i).ringAfter s.clock
      lastPart := some s.clock
      drift := (driftAfter u.pitch s.params.advanceTol advance (s.station i).drift (s.station i).driftFlag).1
      driftFlag := (driftAfter u.pitch s.params.advanceTol advance (s.station i).drift (s.station i).driftFlag).2
      spindle := (s.station i).spindle.withAccount (s.accountAfter i u acc c advance)
      totalParts := sat32 ((s.station i).totalParts + (c - acc.made)) } := by
  simp only [State.debitPart, State.accountAfter]
  split <;> simp [State.countDrift_station_same]

theorem State.debitPart_station_ne (j : Station) (h : j ≠ i) :
    (s.debitPart i u acc c advance).station j = s.station j := by
  simp only [State.debitPart]
  split <;>
    simp [State.modStation_station_ne _ _ _ _ h, State.setSpindle_station_ne _ _ _ _ h,
      State.countDrift_station_ne _ _ _ _ _ h]

theorem State.debitPart_frame :
    s.debitPart i u acc c advance = { s with
      stations := (s.debitPart i u acc c advance).stations
      attention := (s.debitPart i u acc c advance).attention } := by
  simp only [State.debitPart]
  rw [State.countDrift_frame]
  split <;> apply State.ext_of_fields <;> simp

/-- A cause of inexactness raises ACCOUNT_INEXACT with the count (R31). -/
theorem State.debitPart_attOf_inexact (h : s.partInexactAt i u acc c advance = true) :
    ∃ x, (s.debitPart i u acc c advance).attOf .accountInexact (.station i) = some x ∧ x.detail = sat16 c ∧
      x.last = s.clock := by
  rw [State.partInexactAt] at h
  simp only [State.debitPart, h, if_true]
  obtain ⟨x, hx, hd, hl⟩ := State.attOf_raiseEvent_same _ .accountInexact (.station i) c
  refine ⟨x, hx, hd, hl.trans ?_⟩
  rw [State.setSpindle_clock, State.countDrift_frame]
  rfl

theorem State.debitPart_attOf_exact (h : s.partInexactAt i u acc c advance = false) :
    (s.debitPart i u acc c advance).attOf .accountInexact (.station i) = s.attOf .accountInexact (.station i) := by
  rw [State.partInexactAt] at h
  simp only [State.debitPart, h]
  exact State.countDrift_attOf_ne _ i u.pitch advance .accountInexact (.station i) (by decide)

theorem State.debitPart_attOf_drift :
    (s.debitPart i u acc c advance).attOf .feedDrift (.station i) =
      ((s.modStation i fun q => { q with ring := (s.station i).ringAfter s.clock, lastPart := some s.clock }).countDrift i
        u.pitch advance).attOf .feedDrift (.station i) := by
  simp only [State.debitPart]
  split
  · exact State.attOf_raiseEvent_ne _ .accountInexact .feedDrift _ _ c (by simp)
  · rfl

/-- The third part in a row outside the window raises FEED_DRIFT with its advance (R28). -/
theorem State.debitPart_attOf_third (a : Nat) (ho : outsideWindow u.pitch s.params.advanceTol a = true)
    (h2 : (s.station i).drift = 2) :
    ∃ x, (s.debitPart i u acc c (some a)).attOf .feedDrift (.station i) = some x ∧ x.detail = sat16 a ∧
      x.last = s.clock := by
  rw [State.debitPart_attOf_drift]
  exact State.countDrift_attOf_third _ i u.pitch a ho (by simpa using h2)

end DebitPart

section TakePart

/-! What tote and lead evaluation add to the debits, at a station with setup `u` and account `acc`. -/

variable (s : State) (i : Station) (u : Setup) (acc : Account) (c : Nat) (scrap : Bool) (advance : Option Nat)

theorem State.takePart_pool : (s.takePart i u acc c scrap advance).pool = s.pool := by
  rw [State.takePart_eq, State.leadEvaluate_pool, (State.toteStep_fillTote _ i u _).pool, State.debitPart_frame]

theorem State.takePart_load : (s.takePart i u acc c scrap advance).load = s.load := by
  rw [State.takePart_eq, State.leadEvaluate_load, (State.toteStep_fillTote _ i u _).load, State.debitPart_frame]

theorem State.takePart_supervisor : (s.takePart i u acc c scrap advance).supervisor = s.supervisor := by
  rw [State.takePart_eq, State.leadEvaluate_supervisor, (State.toteStep_fillTote _ i u _).supervisor,
    State.debitPart_frame]

variable (hu : (s.station i).spindle.setup? = some u) (ha : (s.station i).spindle.account? = some acc)
include hu ha

/-- After the debits and the tote the station still holds its setup, and the account debited. -/
theorem State.fillTote_debitPart_spindle (n : Nat) :
    ((((s.debitPart i u acc c advance).fillTote i u n).station i).spindle.setup? = some u) ∧
      (((s.debitPart i u acc c advance).fillTote i u n).station i).spindle.account? =
        some (s.accountAfter i u acc c advance) := by
  obtain ⟨w, l, hr⟩ := (State.toteStep_fillTote (s.debitPart i u acc c advance) i u n).record
  rw [hr, State.debitPart_station_same]
  exact ⟨(Spindle.withAccount_setup? _ _).trans hu, Spindle.withAccount_account? _ _ (by rw [ha]; rfl)⟩

theorem State.takePart_station_same :
    ∃ (p : Spindle) (k : Nat) (w : Tote) (l : List Frame), p.setup? = some u ∧
      p.account? = some { s.accountAfter i u acc c advance with lead := k } ∧ 1 ≤ k ∧ k ≤ 63 ∧
      (s.takePart i u acc c scrap advance).station i =
        { (s.debitPart i u acc c advance).station i with spindle := p, tote := w, tx := l } := by
  rw [State.takePart_eq]
  obtain ⟨hu', ha'⟩ := s.fillTote_debitPart_spindle i u acc c advance hu ha
    (if scrap then c - acc.made - 1 else c - acc.made)
  obtain ⟨p, hpu, hpa, hp⟩ := State.leadEvaluate_station_same _ i u _ hu' ha'
  obtain ⟨w, l, hr⟩ := (State.toteStep_fillTote (s.debitPart i u acc c advance) i u
    (if scrap then c - acc.made - 1 else c - acc.made)).record
  obtain ⟨h1, h63⟩ := State.leadOf_bounds _ i u
  exact ⟨p, _, w, l, hpu, hpa, h1, h63, by rw [hp, hr]⟩

theorem State.takePart_station_ne (j : Station) (h : j ≠ i) :
    (s.takePart i u acc c scrap advance).station j = s.station j := by
  rw [State.takePart_eq]
  obtain ⟨hu', ha'⟩ := s.fillTote_debitPart_spindle i u acc c advance hu ha
    (if scrap then c - acc.made - 1 else c - acc.made)
  rw [State.leadEvaluate_station_ne _ i j u _ hu' ha' h, (State.toteStep_fillTote _ i u _).others j h,
    State.debitPart_station_ne _ _ _ _ _ _ j h]

theorem State.takePart_attOf_event (x : Cause) (sc : Scope) (hx : x.isCondition = false) (ho : x ≠ .overfill) :
    (s.takePart i u acc c scrap advance).attOf x sc = (s.debitPart i u acc c advance).attOf x sc := by
  rw [State.takePart_eq]
  obtain ⟨hu', ha'⟩ := s.fillTote_debitPart_spindle i u acc c advance hu ha
    (if scrap then c - acc.made - 1 else c - acc.made)
  rw [State.leadEvaluate_attOf_event x sc hx _ i u _ hu' ha', (State.toteStep_fillTote _ i u _).events x sc hx ho]

end TakePart

/-! ### The PART_OFF of an UP station -/

/-- The state to which a request of an UP station is applied: heard now, its line set aside (R48, R185). -/
def State.takenAt (s : State) (i : Station) : State := s.setStation i ((s.station i).taken s.clock)

@[simp] theorem State.takenAt_station_same (s : State) (i : Station) :
    (s.takenAt i).station i = (s.station i).taken s.clock :=
  s.setStation_station_same i _

/-- A PART_OFF that raises the count is taken, and answered ACK before its notices (R25, R26, R185). -/
theorem State.partOffRequest_taken (s : State) (i : Station) (count : BitVec 16) (scrap : Byte) (a : Option (BitVec 32))
    (u : Setup) (acc : Account) (hup : s.UpAt i) (hu : (s.station i).spindle.setup? = some u)
    (hacc : (s.station i).spindle.account? = some acc) (hs : scrap.toNat ≤ 1)
    (ha : ∀ v, a = some v → v.toNat ≤ 400000) (hc : acc.made < count.toNat) :
    s.partOffRequest i count scrap a =
      (((s.takenAt i).takePart i u acc count.toNat (scrap != 0) (a.map BitVec.toNat)).placeAnswer i (s.station i).tx
        ⟨0x40#8, [0x04#8]⟩).settle := by
  rw [State.partOffRequest, s.attached_of i 0x04#8 ⟨0x40#8, [0x04#8]⟩ _ _ hup]
  simp only [State.setStation_station_same, StationRec.taken_spindle, hu, hacc, if_neg (Nat.not_lt.mpr hs),
    if_neg (advance_in_range a ha), if_neg (Nat.not_le.mpr hc)]
  rfl

/-- The debit of the carried part, read off the advance as the frame spells it (R28). -/
theorem debitOf_toNat (pitch tol : Nat) (a : Option (BitVec 32)) :
    debitOf pitch tol (a.map BitVec.toNat) = (match a with
      | none => pitch
      | some v => if v.toNat + tol < pitch then pitch - tol else if pitch + tol < v.toNat then pitch + tol
        else v.toNat) := by
  cases a <;> rfl

theorem outsideWindow_iff (pitch tol a : Nat) :
    outsideWindow pitch tol a = true ↔ a + tol < pitch ∨ pitch + tol < a := by
  simp [outsideWindow]

/-- The causes of inexactness: a gap, a floored debit, a part taken in ENDING (R31). -/
theorem Account.partInexact_iff (acc : Account) (u : Setup) (c d : Nat) (e : Bool) :
    acc.partInexact u c d e = true ↔
      0 < c - acc.made - 1 ∨ acc.rem - (c - acc.made - 1) * u.pitch < d ∨ e = true := by
  simp [Account.partInexact, or_assoc]

theorem Account.afterPart_inexact (acc : Account) (u : Setup) (c d : Nat) (e : Bool) :
    (acc.afterPart u c d e).inexact = (acc.inexact || acc.partInexact u c d e) := by
  simp [Account.afterPart, Account.partInexact, Bool.or_assoc]

theorem StationRec.taken_ringAfter (r : StationRec) (heard now : Time) :
    (r.taken heard).ringAfter now = r.ringAfter now := rfl

theorem driftAfter_inside (pitch tol a drift : Nat) (flag : Bool) (h : ¬(a + tol < pitch ∨ pitch + tol < a)) :
    driftAfter pitch tol (some a) drift flag = (0, false) :=
  if_neg (mt (outsideWindow_iff pitch tol a).mp h)

theorem driftAfter_outside (pitch tol a drift : Nat) (flag : Bool) (h : a + tol < pitch ∨ pitch + tol < a)
    (hd : drift ≠ 2) : driftAfter pitch tol (some a) drift flag = (drift + 1, flag) :=
  (if_pos ((outsideWindow_iff pitch tol a).mpr h)).trans (if_neg hd)

theorem driftAfter_third (pitch tol a : Nat) (flag : Bool) (h : a + tol < pitch ∨ pitch + tol < a) :
    driftAfter pitch tol (some a) 2 flag = (0, true) :=
  (if_pos ((outsideWindow_iff pitch tol a).mpr h)).trans (if_pos rfl)

section PartOff

/-! What a PART_OFF that is taken leaves once its answer stands on the line and the dispatcher has evaluated. -/

variable (s : State) (i : Station) (u : Setup) (acc : Account) (c : Nat) (scrap : Bool) (advance : Option Nat)
  (answer : Frame)

/-- The state a taken PART_OFF leaves at its end (R26, R106, R185). -/
def State.afterPartOff : State :=
  (((s.takenAt i).takePart i u acc c scrap advance).placeAnswer i (s.station i).tx answer).settle

theorem State.afterPartOff_load : (s.afterPartOff i u acc c scrap advance answer).load = s.load := by
  rw [State.afterPartOff, State.settle_load, State.placeAnswer, State.modStation_load, State.takePart_load,
    State.takenAt, State.setStation_load]

theorem State.afterPartOff_supervisor :
    (s.afterPartOff i u acc c scrap advance answer).supervisor = s.supervisor := by
  rw [State.afterPartOff, State.settle_supervisor, State.placeAnswer, State.modStation_supervisor,
    State.takePart_supervisor, State.takenAt, State.setStation_supervisor]

theorem State.afterPartOff_places :
    (s.afterPartOff i u acc c scrap advance answer).pool.empties = s.pool.empties ∧
      (s.afterPartOff i u acc c scrap advance answer).pool.outFull = s.pool.outFull := by
  obtain ⟨hempties, hfull⟩ := State.settle_places
    (((s.takenAt i).takePart i u acc c scrap advance).placeAnswer i (s.station i).tx answer)
  rw [State.afterPartOff, hempties, hfull, State.placeAnswer, State.modStation_pool, State.takePart_pool,
    State.takenAt, State.setStation_pool]
  exact ⟨rfl, rfl⟩

variable (hu : (s.station i).spindle.setup? = some u) (ha : (s.station i).spindle.account? = some acc)
include hu ha

theorem State.afterPartOff_station_ne (j : Station) (h : j ≠ i) :
    ((s.afterPartOff i u acc c scrap advance answer).station j).sent = (s.station j).sent := by
  rw [State.afterPartOff, State.settle_but_tx, State.placeAnswer, State.modStation_station_ne _ _ _ _ h,
    State.takePart_station_ne _ i u acc c scrap advance (by simpa using hu) (by simpa using ha) j h, State.takenAt,
    State.setStation_station_ne _ _ _ _ h]

theorem State.afterPartOff_attOf_event (x : Cause) (sc : Scope) (hx : x.isCondition = false) (ho : x ≠ .overfill) :
    (s.afterPartOff i u acc c scrap advance answer).attOf x sc =
      ((s.takenAt i).debitPart i u acc c advance).attOf x sc := by
  rw [State.afterPartOff, State.settle_attOf_event x sc hx, State.placeAnswer,
    State.attOf_congr _ _ (State.modStation_attention _ _ _),
    State.takePart_attOf_event _ i u acc c scrap advance (by simpa using hu) (by simpa using ha) x sc hx ho]

/-- The record of the station itself, but for K, the bar state, the tote and its notices. -/
theorem State.afterPartOff_station_same :
    ∃ (p : Spindle) (k : Nat) (w : Tote) (rest : List Frame), p.setup? = some u ∧
      p.account? = some { (s.takenAt i).accountAfter i u acc c advance with lead := k } ∧ 1 ≤ k ∧ k ≤ 63 ∧
      (s.afterPartOff i u acc c scrap advance answer).station i = { s.station i with
        lastHeard := some s.clock
        rx := .hunt
        ring := (s.station i).ringAfter s.clock
        lastPart := some s.clock
        drift := (driftAfter u.pitch s.params.advanceTol advance (s.station i).drift (s.station i).driftFlag).1
        driftFlag := (driftAfter u.pitch s.params.advanceTol advance (s.station i).drift (s.station i).driftFlag).2
        totalParts := sat32 ((s.station i).totalParts + (c - acc.made))
        spindle := p
        tote := w
        tx := (s.station i).tx ++ [answer] ++ rest } := by
  obtain ⟨p, k, w, l, hpu, hpa, hk1, hk63, hrec⟩ := (s.takenAt i).takePart_station_same i u acc c scrap advance
    (by simpa using hu) (by simpa using ha)
  obtain ⟨rest, hline⟩ := State.settle_station_line
    (((s.takenAt i).takePart i u acc c scrap advance).placeAnswer i (s.station i).tx answer) i
  refine ⟨p, k, w, l ++ rest, hpu, hpa, hk1, hk63, ?_⟩
  rw [State.afterPartOff, hline, State.placeAnswer, State.modStation_station_same, hrec, State.debitPart_station_same,
    State.takenAt_station_same, StationRec.taken_ringAfter]
  simp only [StationRec.taken, List.append_assoc, List.cons_append]
  rfl

end PartOff

/-- Settles O30: the record of the station, the events' records and the rest of the state after a taken PART_OFF, each read
off its lemma. -/
theorem partOffDebitsTheAccount : Obligations.PartOffDebitsTheAccount := by
  intro s i count scrap a u acc hup hu hacc hs ha hc r pitch tol missing debit before left cause outside
  have hdebit : debitOf u.pitch (s.takenAt i).params.advanceTol (a.map BitVec.toNat) = debit :=
    debitOf_toNat u.pitch tol a
  have hcause : (s.takenAt i).partInexactAt i u acc count.toNat (a.map BitVec.toNat) = true ↔ cause := by
    rw [State.partInexactAt, Account.partInexact_iff, decide_eq_true_eq, State.takenAt_station_same, hdebit]
    rfl
  have hafter : (s.takenAt i).accountAfter i u acc count.toNat (a.map BitVec.toNat) =
      acc.afterPart u count.toNat debit (decide (r.spindle.barState = .ending)) := by
    rw [State.accountAfter, State.takenAt_station_same, hdebit]
    rfl
  have hinexact : (acc.afterPart u count.toNat debit (decide (r.spindle.barState = .ending))).inexact = true ↔
      acc.inexact = true ∨ cause := by
    rw [← hcause, State.partInexactAt, hdebit, Account.afterPart_inexact, Bool.or_eq_true, State.takenAt_station_same]
    rfl
  have hatt := s.afterPartOff_attOf_event i u acc count.toNat (scrap != 0) (a.map BitVec.toNat) ⟨0x40#8, [0x04#8]⟩
    hu hacc
  obtain ⟨p, k, w, rest, hpu, hpa, hk1, hk63, hrec⟩ := s.afterPartOff_station_same i u acc count.toNat (scrap != 0)
    (a.map BitVec.toNat) ⟨0x40#8, [0x04#8]⟩ hu hacc
  obtain ⟨hempties, hfull⟩ := s.afterPartOff_places i u acc count.toNat (scrap != 0) (a.map BitVec.toNat)
    ⟨0x40#8, [0x04#8]⟩
  rw [hafter] at hpa
  have hnext : exec (.partOff i count scrap a) s = .next (s.afterPartOff i u acc count.toNat (scrap != 0)
      (a.map BitVec.toNat) ⟨0x40#8, [0x04#8]⟩) := by
    rw [exec_partOff, s.partOffRequest_taken i count scrap a u acc hup hu hacc hs ha hc]
    rfl
  refine ⟨_, { acc.afterPart u count.toNat debit (decide (r.spindle.barState = .ending)) with lead := k }, hnext,
    by rw [hrec]; exact hpa, by rw [hrec]; exact hpu, rfl, rfl, rfl, rfl, hinexact, hk1, hk63,
    fun h => ?inexact, fun h => ?exact, by rw [hrec], fun h => ?first, fun last h => ⟨fun hd => ?discarded,
    fun hd hl => ?kept⟩, fun h => ?noAdvance, fun v hv ho => ?inside, fun ho hd => ?outside, fun ho hd => ?third,
    ?parts, by rw [hrec], by rw [hrec], by rw [hrec], by rw [hrec], by rw [hrec]; exact hup.2.2, by rw [hrec],
    ⟨rest, by rw [hrec]⟩, fun j hj => s.afterPartOff_station_ne i u acc _ _ _ _ hu hacc j hj, s.afterPartOff_load ..,
    s.afterPartOff_supervisor .., hempties, hfull⟩
  case inexact =>
    rw [hatt .accountInexact (.station i) rfl (by decide)]
    obtain ⟨x, hx, hd, hl⟩ := State.debitPart_attOf_inexact _ i u acc count.toNat (a.map BitVec.toNat) (hcause.mpr h)
    exact ⟨x, hx, hd.trans (Nat.min_eq_left (Nat.le_of_lt_succ count.isLt)), hl⟩
  case exact =>
    rw [hatt .accountInexact (.station i) rfl (by decide)]
    exact State.debitPart_attOf_exact _ i u acc count.toNat (a.map BitVec.toNat)
      (Bool.eq_false_iff.mpr fun hi => h (hcause.mp hi))
  case first =>
    rw [hrec]
    exact r.ringAfter_first s.clock h
  case discarded =>
    rw [hrec]
    exact r.ringAfter_discarded s.clock last h hd
  case kept =>
    rw [hrec]
    exact r.ringAfter_kept s.clock last h hd hl
  case noAdvance =>
    rw [hrec, h]
    exact ⟨rfl, rfl⟩
  case inside =>
    rw [hrec, hv]
    have hin : ¬(v.toNat + tol < pitch ∨ pitch + tol < v.toNat) := fun h => ho ⟨v, hv, h⟩
    exact Prod.mk.inj (driftAfter_inside pitch tol v.toNat r.drift r.driftFlag hin)
  case outside =>
    obtain ⟨v, hv, h⟩ := ho
    rw [hrec, hv]
    exact Prod.mk.inj (driftAfter_outside pitch tol v.toNat r.drift r.driftFlag h hd)
  case third =>
    obtain ⟨v, hv, h⟩ := ho
    rw [hatt .feedDrift (.station i) rfl (by decide), hrec, hv]
    have h3 := Prod.mk.inj (hd ▸ driftAfter_third pitch tol v.toNat r.driftFlag h)
    obtain ⟨x, hx, hdet, hl⟩ := State.debitPart_attOf_third (s.takenAt i) i u acc count.toNat v.toNat
      ((outsideWindow_iff pitch tol v.toNat).mpr h) (by rw [State.takenAt_station_same]; exact hd)
    exact ⟨h3.1, h3.2, x, hx, hl, fun v' hv' => by obtain rfl := Option.some.inj hv'; exact hdet⟩
  case parts =>
    rw [hrec]
    have hparts : missing + 1 = count.toNat - acc.made := by omega
    rw [hparts]
    rfl

end Sys2Proof.Machine
end

section
/-! PROOFS. The dispatcher: O19 (ARBITER_ORDER and HALL_HOLD) and O53 (the dispatch evaluation). What the codes name, which
job the evaluation chooses, and what a dispatch leaves in each part of the state stand before them. -/

open Sys2Proof Sys2Proof.Machine

namespace Sys2Proof.Machine

/-! ### Bays and hold levels by their codes (R198) -/

@[simp] theorem bayOfCode_code (b : Bay) : bayOfCode b.code = some b := by cases b <;> rfl

theorem bayOfCode_eq_some_iff (n : Nat) (b : Bay) : bayOfCode n = some b ↔ n = b.code := by
  constructor
  · intro h
    unfold bayOfCode at h
    split at h <;> cases h <;> rfl
  · rintro rfl
    exact bayOfCode_code b

theorem Bay.code_inj (a b : Bay) : a.code = b.code ↔ a = b := by
  rw [← bayOfCode_eq_some_iff, bayOfCode_code, Option.some_inj]

@[simp] theorem holdOfCode_code (l : HoldLevel) : holdOfCode l.code = some l := by cases l <;> rfl

theorem holdOfCode_of_gt (n : Nat) (h : 2 < n) : holdOfCode n = none := by
  match n, h with
  | _ + 3, _ => rfl

/-! ### O19: the dispatcher's settings (R101, R104) -/

/-- The fields of an ARBITER_ORDER pass together exactly when the first three name each bay once and the flags are the
three of R104; which field is charged otherwise is notes/assumptions/11.md. -/
theorem arbiterRange_eq_none_iff (w : Write) : arbiterRange w = none ↔
    (∃ b1 b2 b3 : Bay, b1 ≠ b2 ∧ b1 ≠ b3 ∧ b2 ≠ b3 ∧ w.u8 0 = b1.code ∧ w.u8 1 = b2.code ∧ w.u8 2 = b3.code) ∧
      w.u8 3 < 8 := by
  constructor
  · intro h
    unfold arbiterRange at h
    split at h
    · cases h
    next first =>
    split at h
    · cases h
    next second =>
    split at h
    · cases h
    next third =>
    split at h
    · cases h
    next flags =>
    simp only [not_or, Option.isNone_iff_eq_none, Option.ne_none_iff_exists', bayOfCode_eq_some_iff]
      at first second third
    obtain ⟨b1, h1⟩ := first
    obtain ⟨⟨b2, h2⟩, h21⟩ := second
    obtain ⟨⟨b3, h3⟩, h31, h32⟩ := third
    rw [h1, h2, Bay.code_inj] at h21
    rw [h1, h3, Bay.code_inj] at h31
    rw [h2, h3, Bay.code_inj] at h32
    exact ⟨⟨b1, b2, b3, Ne.symm h21, Ne.symm h31, Ne.symm h32, h1, h2, h3⟩, Nat.lt_of_not_le flags⟩
  · rintro ⟨⟨b1, b2, b3, h12, h13, h23, h1, h2, h3⟩, flags⟩
    simp [arbiterRange, h1, h2, h3, Bay.code_inj, h12.symm, h13.symm, h23.symm, flags]

theorem exec_arbiterOrder (w : Write) (s : State) : exec (.arbiterOrder w) s = .next (s.arbiterCommand w) := rfl

theorem exec_hallHold (w : Write) (s : State) : exec (.hallHold w) s = .next (s.hallHoldCommand w) := rfl

theorem State.arbiterCommand_refused (s : State) (w : Write) (hlen : w.lenOk [4] = true) (h : arbiterRange w ≠ none) :
    ∃ f, s.arbiterCommand w = s.refuse w .range f := by
  obtain ⟨f, hf⟩ := Option.ne_none_iff_exists'.mp h
  exact ⟨f, by simp [State.arbiterCommand, hlen, hf]⟩

theorem State.arbiterCommand_taken (s : State) (w : Write) (b1 b2 b3 : Bay) (hlen : w.lenOk [4] = true)
    (h : arbiterRange w = none) (h1 : w.u8 0 = b1.code) (h2 : w.u8 1 = b2.code) (h3 : w.u8 2 = b3.code) :
    s.arbiterCommand w = (s.setArbiter { s.arbiter with
      first := b1, second := b2, third := b3
      bayA := { s.arbiter.bayA with rotate := (w.u8 3).testBit 0 }
      bayB := { s.arbiter.bayB with rotate := (w.u8 3).testBit 1 }
      bayC := { s.arbiter.bayC with rotate := (w.u8 3).testBit 2 } }).ok w [] := by
  simp [State.arbiterCommand, hlen, h, h1, h2, h3]

/-- The state of an event that informed the dispatcher is evaluated with the flag down again (R106). -/
theorem State.settle_informDispatcher (s : State) (h : s.dispatchDue = false) :
    s.informDispatcher.settle = s.evaluate := by
  have hdown : ({ s.informDispatcher with dispatchDue := false } : State) = s := by
    cases s
    cases h
    rfl
  rw [State.settle, if_pos (s.informDispatcher_dispatchDue), hdown]

theorem State.hallHoldCommand_refused (s : State) (w : Write) (hlen : w.lenOk [1] = true) (h : 2 < w.u8 0) :
    s.hallHoldCommand w = s.refuse w .range 1 := by
  simp [State.hallHoldCommand, hlen, holdOfCode_of_gt _ h]

/-- A level that does not block fewer classes gives no evaluation (R106). -/
theorem State.hallHoldCommand_not_weaker (s : State) (w : Write) (l : HoldLevel) (hdue : s.dispatchDue = false)
    (hlen : w.lenOk [1] = true) (h : w.u8 0 = l.code) (hl : s.arbiter.hold.code ≤ l.code) :
    s.hallHoldCommand w = (s.setArbiter { s.arbiter with hold := l }).ok w [] := by
  simp only [State.hallHoldCommand, hlen, h, holdOfCode_code, if_true, if_neg (Nat.not_lt.mpr hl)]
  rw [State.settle_idle]
  exact hdue

theorem State.hallHoldCommand_weaker (s : State) (w : Write) (l : HoldLevel) (hdue : s.dispatchDue = false)
    (hlen : w.lenOk [1] = true) (h : w.u8 0 = l.code) (hl : l.code < s.arbiter.hold.code) :
    s.hallHoldCommand w = (s.setArbiter { s.arbiter with hold := l }).evaluate.ok w [] := by
  simp only [State.hallHoldCommand, hlen, h, holdOfCode_code, if_true, if_pos hl]
  rw [State.settle_informDispatcher]
  exact hdue

/-- Settles O19: ARBITER_ORDER by what its range check passes, HALL_HOLD by whether the level blocks fewer classes. -/
theorem dispatchSettingsAreSet : Obligations.DispatchSettingsAreSet := by
  refine ⟨fun s w hlen => ⟨fun b1 b2 b3 h12 h13 h23 h1 h2 h3 flags => ?taken, fun h => ?refused⟩,
    fun s w hdue hlen => ⟨fun h => ?noLevel, fun l h => ⟨fun hl => ?stronger, fun hl => ?weaker⟩⟩⟩
  case taken =>
    have hrange := (arbiterRange_eq_none_iff w).mpr ⟨⟨b1, b2, b3, h12, h13, h23, h1, h2, h3⟩, flags⟩
    rw [exec_arbiterOrder, s.arbiterCommand_taken w b1 b2 b3 hlen hrange h1 h2 h3]
    rfl
  case refused =>
    have hrange : arbiterRange w ≠ none := fun hnone => by
      obtain ⟨order, flags⟩ := (arbiterRange_eq_none_iff w).mp hnone
      exact h.elim (fun ho => ho order) (fun hf => Nat.not_lt.mpr hf flags)
    obtain ⟨f, hf⟩ := s.arbiterCommand_refused w hlen hrange
    exact ⟨f, by rw [exec_arbiterOrder, hf]⟩
  case noLevel => rw [exec_hallHold, s.hallHoldCommand_refused w hlen h]
  case stronger =>
    rw [exec_hallHold, s.hallHoldCommand_not_weaker w l hdue hlen h hl]
    rfl
  case weaker =>
    rw [exec_hallHold, s.hallHoldCommand_weaker w l hdue hlen h hl]
    rfl

/-! ### The job a dispatch evaluation chooses (R100, R105, R107) -/

theorem State.mem_eligible_iff (s : State) (j : Job) :
    j ∈ s.queue.filter s.eligible ↔ j ∈ s.queue ∧ s.blockOf j = .none := by
  rw [List.mem_filter, State.eligible, decide_eq_true_eq]

/-- A BAR job without a slot is blocked by STOCK_WAIT (R100), so a dispatched one has a slot. -/
theorem State.slot_of_blockOf_none (s : State) (j : Job) (h : s.blockOf j = .none) (hk : j.kind = .bar) :
    ∃ k, j.slot = some k := by
  refine Option.ne_none_iff_exists'.mp fun hslot => ?_
  simp [State.blockOf, Job.isBar, hk, hslot] at h

/-- The class is the first key of the dispatch order (R105). -/
theorem State.cls_le_of_dispatchKey (s : State) (j q : Job)
    (h : lexLt (s.dispatchKey q) (s.dispatchKey j) = false) : j.cls ≤ q.cls := by
  simp only [State.dispatchKey, lexLt, Bool.or_eq_false_iff, decide_eq_false_iff_not, Nat.not_lt] at h
  exact h.1

theorem State.firstInOrder_least (s : State) (j : Job) (h : s.firstInOrder (s.queue.filter s.eligible) = some j) :
    (j ∈ s.queue ∧ s.blockOf j = .none) ∧
      ∀ q ∈ s.queue, s.blockOf q = .none → lexLt (s.dispatchKey q) (s.dispatchKey j) = false :=
  ⟨(s.mem_eligible_iff j).mp (mem_of_firstBy _ _ _ h), fun q hq hb =>
    firstBy_least _ 4 s.dispatchKey_length _ _ h q ((s.mem_eligible_iff q).mpr ⟨hq, hb⟩)⟩

theorem State.evaluate_rest (s : State) (h : s.supervisor.mode = .commission ∨ s.shuttle ≠ .idle) :
    s.evaluate = s := by
  refine if_neg fun ⟨hmode, hidle⟩ => ?_
  rcases h with h | h
  · rw [hmode] at h
    cases h
  · exact h hidle

theorem State.evaluate_none (s : State) (h : ∀ j ∈ s.queue, s.blockOf j ≠ .none) : s.evaluate = s := by
  have hempty : s.queue.filter s.eligible = [] :=
    List.eq_nil_iff_forall_not_mem.mpr fun j hj =>
      have ⟨hq, hb⟩ := (s.mem_eligible_iff j).mp hj
      h j hq hb
  unfold State.evaluate
  rw [hempty]
  exact ite_self s

theorem State.evaluate_some (s : State) (hmode : s.supervisor.mode = .production) (hidle : s.shuttle = .idle)
    (h : ∃ j ∈ s.queue, s.blockOf j = .none) :
    ∃ j, s.firstInOrder (s.queue.filter s.eligible) = some j ∧ s.evaluate = s.dispatch j := by
  obtain ⟨q, hq⟩ := h
  have hne : s.firstInOrder (s.queue.filter s.eligible) ≠ none := fun hnone =>
    List.not_mem_nil ((firstBy_eq_none _ _).mp hnone ▸ (s.mem_eligible_iff q).mpr hq)
  obtain ⟨j, hj⟩ := Option.ne_none_iff_exists'.mp hne
  exact ⟨j, hj, by simp [State.evaluate, hmode, hidle, hj]⟩

/-! ### What a dispatch leaves in each part of the state (R107, R108, R109, R128) -/

/-- Where the first move of a dispatched job goes: its slot, or the stand (R128). -/
def Job.firstTarget (j : Job) : Target :=
  match j.kind, j.slot with
  | .bar, some k => .slot k
  | _, _ => .stand

theorem Job.firstTarget_of_bar (j : Job) (k : SlotIx) (hk : j.kind = .bar) (hs : j.slot = some k) :
    j.firstTarget = .slot k := by
  simp [Job.firstTarget, hk, hs]

theorem Job.firstTarget_of_tote (j : Job) (hk : j.kind ≠ .bar) : j.firstTarget = .stand := by
  cases h : j.kind with
  | bar => exact absurd h hk
  | swap | place => simp [Job.firstTarget, h]

theorem startOf_phase_of_bar (j : Job) (hk : j.kind = .bar) : (startOf j).phase = .toSlot := by
  simp [startOf, Job.isBar, hk]

theorem startOf_phase_of_tote (j : Job) (hk : j.kind ≠ .bar) : (startOf j).phase = .toStand := by
  simp [startOf, Job.isBar, hk]

theorem State.startJob_eq_issueMove (s : State) (j : Job) (h : j.kind = .bar → ∃ k, j.slot = some k) :
    s.startJob j = s.issueMove (.job (startOf j)) j.firstTarget .travel := by
  cases hk : j.kind with
  | bar =>
    obtain ⟨k, hs⟩ := h hk
    simp [State.startJob, Job.firstTarget, hk, hs]
  | swap | place => simp [State.startJob, Job.firstTarget, hk]

theorem State.dispatch_shuttle (s : State) (j : Job) (h : j.kind = .bar → ∃ k, j.slot = some k) :
    (s.dispatch j).shuttle = .moving (.job (startOf j))
      ⟨nextTag s.drive.moveTag, j.firstTarget, .travel, timeAfter s.clock s.params.travelTimeout⟩ := by
  simp [State.dispatch, State.startJob_eq_issueMove _ j h, State.issueMove, State.moveTimeout]

theorem State.dispatch_queue (s : State) (j : Job) :
    (s.dispatch j).queue = s.agedQueue j (s.queue.filter fun q => decide (q.number ≠ j.number)) := by
  simp [State.dispatch, State.unqueue]

theorem Job.aged_eq (q : Job) : q.aged =
    if q.pass < 7 then { q with pass := q.pass + 1 }
    else { q with pass := 0, cls := if q.cls = 2 ∨ q.cls = 3 then q.cls - 1 else q.cls } := by
  by_cases h : q.pass < 7
  · rw [Job.aged, if_neg (Nat.not_le.mpr h), if_pos h]
  · rw [Job.aged, if_pos (Nat.le_of_not_lt h), if_neg h]

theorem State.dispatch_pool (s : State) (j : Job) : (s.dispatch j).pool = s.pool.reserveFor j.kind := by
  simp [State.dispatch]

theorem Pool.reserveFor_eq (p : Pool) (k : JobKind) : p.reserveFor k = { p with
    reserved := p.reserved + (if k = .bar then 0 else 1)
    outRes := p.outRes + (if k = .swap then 1 else 0) } := by
  cases k <;> rfl

theorem State.dispatch_arbiter (s : State) (j : Job) :
    (s.dispatch j).arbiter = s.arbiter.setPointer (bayOf j.station) j.station := by
  simp [State.dispatch]

/-- Of the stations a dispatch touches the line of the job's own alone, by the notice of R109. -/
theorem State.dispatch_station (s : State) (j : Job) (i : Station) :
    (s.dispatch j).station i = (s.notify j.station (s.onWay j)).station i := by
  by_cases hp : (s.station j.station).present = true
  · simp only [State.dispatch, State.startJob_station]
    rw [State.notify_present _ _ _ (by simpa using hp), State.notify_present _ _ _ hp]
    simp [State.setStation_station, State.onWay]
  · simp only [State.dispatch, State.startJob_station]
    rw [State.notify_absent _ _ _ (by simpa using hp), State.notify_absent _ _ _ (by simpa using hp)]
    simp

theorem State.dispatch_station_ne (s : State) (j : Job) (i : Station) (h : i ≠ j.station) :
    (s.dispatch j).station i = s.station i := by
  rw [s.dispatch_station, State.notify]
  split
  · exact s.setStation_station_ne _ _ _ h
  · rfl

theorem State.dispatch_station_same (s : State) (j : Job) (hp : (s.station j.station).present = true) :
    (s.dispatch j).station j.station =
      { s.station j.station with tx := (s.station j.station).tx ++ [s.onWay j] } := by
  rw [s.dispatch_station, s.notify_present _ _ hp, State.setStation_station_same]

theorem State.onWay_of_bar (s : State) (j : Job) (k : SlotIx) (b : Bar) (n : Nat) (hk : j.kind = .bar)
    (hs : j.slot = some k) (hslot : s.slot k = .reserved b n) :
    s.onWay j = Frame.barOnWay j.number (s.station j.station).travel b.tag := by
  simp [State.onWay, hk, hs, hslot, Slot.bar?]

theorem State.onWay_of_tote (s : State) (j : Job) (hk : j.kind ≠ .bar) :
    s.onWay j = Frame.toteOnWay j.number j.kind (s.station j.station).travel := by
  cases h : j.kind with
  | bar => exact absurd h hk
  | swap | place => simp [State.onWay, h]

/-! ### O53: the dispatch evaluation -/

/-- Settles O53: an evaluation that chooses a job is the dispatch of the first eligible one, read part by part. -/
theorem dispatchTakesTheFirstEligibleJob : Obligations.DispatchTakesTheFirstEligibleJob := by
  refine fun s => ⟨s.evaluate_rest, fun hmode hidle => ⟨s.evaluate_none, fun hsome => ?_⟩⟩
  obtain ⟨j, hfirst, heval⟩ := s.evaluate_some hmode hidle hsome
  obtain ⟨⟨hmem, hfree⟩, hleast⟩ := s.firstInOrder_least j hfirst
  have hslot := s.slot_of_blockOf_none j hfree
  rw [heval]
  refine ⟨j, startOf j, _, hmem, hfree, fun q hq hb => ⟨s.cls_le_of_dispatchKey j q (hleast q hq hb), hleast q hq hb⟩,
    s.dispatch_shuttle j hslot, rfl, rfl, rfl, fun hk => ?bar,
    fun hk => ⟨startOf_phase_of_tote j hk, j.firstTarget_of_tote hk⟩, rfl, rfl, ?queue, ?pool, s.dispatch_arbiter j,
    s.dispatch_station_ne j, fun hp => ⟨fun hk => ?toteNotice, fun k b n hk hs hres => ?barNotice⟩⟩
  case bar =>
    obtain ⟨k, hs⟩ := hslot hk
    exact ⟨k, hs, startOf_phase_of_bar j hk, j.firstTarget_of_bar k hk hs⟩
  case queue => simp only [s.dispatch_queue, State.agedQueue, State.eligible, decide_eq_true_eq, Job.aged_eq]
  case pool => rw [s.dispatch_pool, Pool.reserveFor_eq]
  case toteNotice =>
    rw [s.dispatch_station_same j hp, s.onWay_of_tote j hk]
    rfl
  case barNotice =>
    rw [s.dispatch_station_same j hp, s.onWay_of_bar j k b n hk hs hres]
    rfl

end Sys2Proof.Machine
end

section
/-! PROOFS. Zone control: O60 (the tenth law), O44 (grants and closes), O46 (the expiry of open-until), O42 (the zone
wait deadline) and O45 (admission and decline). What an operation does to the zone that the shuttle reaches into, and
the equations of grant, withdrawal and decline, stand before them. -/

open Sys2Proof Sys2Proof.Machine

namespace Sys2Proof.Machine

/-! ### Steps that reach into no new zone

Every operation but the admission either keeps the zone that the shuttle reaches into, or leaves it reaching into none;
and all but the end of a visit leave an IN_USE zone IN_USE. -/

/-- From `s` to `t` the shuttle comes to reach into no other zone, and no zone ceases to be IN_USE. -/
structure State.ZoneStep (s t : State) : Prop where
  reached : t.zoneReached = s.zoneReached ∨ t.zoneReached = none
  inUse : ∀ i, (s.station i).zone = .inUse → (t.station i).zone = .inUse

section
variable {s t u : State}

/-- A shuttle that reaches into no zone guards none. -/
theorem State.ZoneHeld.of_none (h : t.zoneReached = none) : t.ZoneHeld := by
  intro i hi
  rw [h] at hi
  cases hi

theorem State.ZoneHeld.guarded (h : t.ZoneHeld) : t.ZoneGuarded := by
  unfold State.ZoneGuarded State.zoneEntered
  unfold State.ZoneHeld State.zoneReached at h
  cases hs : t.shuttle with
  | moving w m => rwa [hs] at h
  | offline | idle | zoneWait | fault => exact fun i hi => nomatch hi

theorem State.ZoneStep.held (h : s.ZoneStep t) (hs : s.ZoneHeld) : t.ZoneHeld := by
  rcases h.reached with hr | hr
  · exact fun i hi => h.inUse i (hs i (hr ▸ hi))
  · exact .of_none hr

/-- A shuttle that reaches into no zone still reaches into none. -/
theorem State.ZoneStep.reaches_none (h : s.ZoneStep t) (hs : s.zoneReached = none) : t.zoneReached = none :=
  h.reached.elim (fun hr => hr.trans hs) id

theorem State.ZoneStep.refl (s : State) : s.ZoneStep s := ⟨.inl rfl, fun _ h => h⟩

theorem State.ZoneStep.trans (h : s.ZoneStep t) (h' : t.ZoneStep u) : s.ZoneStep u where
  reached := h'.reached.elim (fun hr => hr ▸ h.reached) .inr
  inUse := fun i hi => h'.inUse i (h.inUse i hi)

theorem State.zoneReached_congr (h : t.shuttle = s.shuttle) : t.zoneReached = s.zoneReached := by
  unfold State.zoneReached
  rw [h]

/-- An operation that leaves the shuttle and every zone record alone. -/
theorem State.ZoneStep.keep (h : s.ZoneStep t) (hs : u.shuttle = t.shuttle)
    (hz : ∀ i, (u.station i).zone = (t.station i).zone) : s.ZoneStep u :=
  h.trans ⟨.inl (State.zoneReached_congr hs), fun i hi => (hz i).trans hi⟩

/-- A record changed by a function that keeps its zone IN_USE. -/
theorem State.ZoneStep.modStation (h : s.ZoneStep t) (i : Station) (f : StationRec → StationRec)
    (hf : (t.station i).zone = .inUse → (f (t.station i)).zone = .inUse) : s.ZoneStep (t.modStation i f) := by
  refine h.trans ⟨.inl rfl, fun j hj => ?_⟩
  rw [State.modStation_station]
  split
  · rename_i hji
    exact hf (hji ▸ hj)
  · exact hj

/-! ### Lines, records and jobs -/

theorem State.modCurrent_zoneReached (s : State) (f : Job → Job) : (s.modCurrent f).zoneReached = s.zoneReached := by
  unfold State.modCurrent
  split
  · rename_i c m hs
    simp [State.zoneReached, hs]
  · rename_i c d hs
    simp [State.zoneReached, hs]
  · rename_i c r m hs
    simp only [State.zoneReached, hs]
    cases m <;> rfl
  · rfl

theorem State.ZoneStep.modCurrent (h : s.ZoneStep t) (f : Job → Job) : s.ZoneStep (t.modCurrent f) :=
  h.trans ⟨.inl (t.modCurrent_zoneReached f), fun i hi => by simpa using hi⟩

theorem State.ZoneStep.notify (h : s.ZoneStep t) (i : Station) (f : Frame) : s.ZoneStep (t.notify i f) :=
  h.keep (by simp) (by simp)

theorem State.ZoneStep.post (h : s.ZoneStep t) (k : JobKind) (c : Nat) (i : Station) : s.ZoneStep (t.post k c i) :=
  h.keep (by simp) (by simp)

theorem State.ZoneStep.raiseEvent (h : s.ZoneStep t) (c : Cause) (sc : Scope) (d : Nat) :
    s.ZoneStep (t.raiseEvent c sc d) :=
  h.keep (by simp) (by simp)

theorem State.ZoneStep.raiseClass (h : s.ZoneStep t) (b : Bool) (i : Station) (c : Nat) :
    s.ZoneStep (t.raiseClass b i c) := by
  unfold State.raiseClass
  split
  · split
    · exact h
    · exact h.keep (by simp) (by simp)
  · split
    · exact h.modCurrent _
    · exact h

/-- A dispatch evaluation moves the shuttle only out of IDLE, and only on a TRAVEL (R107, R128). -/
theorem State.ZoneStep.evaluate (h : s.ZoneStep t) : s.ZoneStep t.evaluate := by
  refine h.trans ⟨?_, fun i hi => by simpa using hi⟩
  unfold State.evaluate
  split
  · split
    · rename_i hidle j hj
      obtain ⟨hq, hb⟩ := (t.firstInOrder_least j hj).1
      refine .inr ?_
      unfold State.zoneReached
      rw [t.dispatch_shuttle j (t.slot_of_blockOf_none j hb)]
      rfl
    · exact .inl rfl
  · exact .inl rfl

theorem State.ZoneStep.settle (h : s.ZoneStep t) : s.ZoneStep t.settle := by
  unfold State.settle
  split
  · exact State.ZoneStep.evaluate (h.keep rfl fun _ => rfl)
  · exact h

theorem State.ZoneStep.informDispatcher (h : s.ZoneStep t) : s.ZoneStep t.informDispatcher := h.keep rfl fun _ => rfl

theorem State.ZoneStep.setTote (h : s.ZoneStep t) (i : Station) (w : Tote) : s.ZoneStep (t.setTote i w) :=
  h.modStation i _ id

theorem State.ZoneStep.setSpindle (h : s.ZoneStep t) (i : Station) (p : Spindle) : s.ZoneStep (t.setSpindle i p) :=
  h.modStation i _ id

theorem State.ZoneStep.setLink (h : s.ZoneStep t) (i : Station) (l : Link) : s.ZoneStep (t.setLink i l) :=
  h.modStation i _ id

/-! ### The tote at a station -/

/-- A tote step keeps every zone record. -/
theorem State.ToteStep.zone {i : Station} (h : State.ToteStep i s t) (j : Station) :
    (t.station j).zone = (s.station j).zone := by
  by_cases hj : j = i
  · subst hj
    obtain ⟨w, l, hr⟩ := h.record
    rw [hr]
  · rw [h.others j hj]

theorem State.ZoneStep.toteEvaluate (h : s.ZoneStep t) (i : Station) : s.ZoneStep (t.toteEvaluate i) :=
  h.keep (by simp) (t.toteStep_toteEvaluate i).zone

theorem State.ZoneStep.exchangeLead (h : s.ZoneStep t) (i : Station) : s.ZoneStep (t.exchangeLead i) :=
  h.keep (by simp) (t.toteStep_exchangeLead i).zone

theorem State.ZoneStep.toteAttach (h : s.ZoneStep t) (i : Station) : s.ZoneStep (t.toteAttach i) := by
  unfold State.toteAttach
  refine State.ZoneStep.toteEvaluate ?_ i
  split
  · exact h.notify i _
  · exact h.notify i _
  · exact h

theorem State.ZoneStep.toteFills (h : s.ZoneStep t) (i : Station) : s.ZoneStep (t.toteFills i) := by
  unfold State.toteFills
  refine State.ZoneStep.setTote ?_ i _
  split
  · exact (h.notify i _).raiseClass false i 1
  · exact (h.notify i _).post .swap 1 i

theorem State.ZoneStep.countPart (h : s.ZoneStep t) (i : Station) (u : Setup) : s.ZoneStep (t.countPart i u).1 := by
  unfold State.countPart
  split
  · exact h
  · exact h
  · rename_i n _
    dsimp only
    split
    · exact (h.setTote i _).toteFills i
    · split
      · exact (h.setTote i _).exchangeLead i
      · exact h.setTote i _
  · rename_i n _
    dsimp only
    split
    · exact (h.setTote i _).toteFills i
    · exact h.setTote i _

theorem State.ZoneStep.countParts (i : Station) (u : Setup) (n : Nat) :
    ∀ {t : State} (held : Nat), s.ZoneStep t → s.ZoneStep (t.countParts i u held n).1 := by
  induction n with
  | zero => exact fun _ h => h
  | succ n ih => exact fun _ h => ih _ (h.countPart i u)

theorem State.ZoneStep.fillTote (h : s.ZoneStep t) (i : Station) (u : Setup) (parts : Nat) :
    s.ZoneStep (t.fillTote i u parts) := by
  unfold State.fillTote
  refine State.ZoneStep.toteEvaluate ?_ i
  split
  · exact (State.ZoneStep.countParts i u parts 0 h).raiseEvent _ _ _
  · exact State.ZoneStep.countParts i u parts 0 h

theorem State.ZoneStep.newCapacity (h : s.ZoneStep t) (i : Station) (u : Setup) : s.ZoneStep (t.newCapacity i u) := by
  unfold State.newCapacity
  extract_lets n s1 s2
  have h1 : s.ZoneStep s1 := by
    simp only [s1]
    split
    · exact (h.raiseEvent _ _ _).setTote i _
    · exact h
  refine State.ZoneStep.toteEvaluate ?_ i
  simp only [s2]
  split
  · split
    · exact h1.toteFills i
    · exact h1
  · split
    · exact h1.toteFills i
    · exact h1
  · exact h1

/-! ### Bar state and account of a station -/

theorem State.ZoneStep.stationEvaluate (h : s.ZoneStep t) (i : Station) : s.ZoneStep (t.stationEvaluate i) := by
  unfold State.stationEvaluate
  extract_lets s1
  have h1 : s.ZoneStep s1 := by
    simp only [s1]
    split
    · split
      · exact h
      · exact h.setSpindle i _
    · exact h
  split
  · split
    · exact h1
    · split
      · exact (h1.raiseClass true i 0).setSpindle i _
      · exact (h1.post .bar 0 i).setSpindle i _
  · exact h1

theorem State.ZoneStep.evaluateIfIdle (h : s.ZoneStep t) (i : Station) : s.ZoneStep (t.evaluateIfIdle i) := by
  unfold State.evaluateIfIdle
  split
  · exact h.stationEvaluate i
  · exact h.stationEvaluate i
  · exact h

theorem State.ZoneStep.leadReturn (h : s.ZoneStep t) (i : Station) : s.ZoneStep (t.leadReturn i) := by
  unfold State.leadReturn
  split
  · split
    · exact h
    · exact h.setSpindle i _
  · exact h

theorem State.ZoneStep.leadRecompute (h : s.ZoneStep t) (i : Station) : s.ZoneStep (t.leadRecompute i) := by
  unfold State.leadRecompute
  split
  · exact h.setSpindle i _
  · exact h

theorem State.ZoneStep.leadTrigger (h : s.ZoneStep t) (i : Station) : s.ZoneStep (t.leadTrigger i) := by
  unfold State.leadTrigger
  split
  · split
    · exact (h.post .bar 2 i).setSpindle i _
    · exact h
  · exact h

theorem State.ZoneStep.leadEnding (h : s.ZoneStep t) (i : Station) : s.ZoneStep (t.leadEnding i) := by
  unfold State.leadEnding
  split
  · split
    · exact h.setSpindle i _
    · exact h
  · split
    · exact h.setSpindle i _
    · exact h
  · exact h

theorem State.ZoneStep.leadEvaluate (h : s.ZoneStep t) (i : Station) : s.ZoneStep (t.leadEvaluate i) :=
  (((h.leadReturn i).leadRecompute i).leadTrigger i).leadEnding i

theorem State.ZoneStep.takeLoad (h : s.ZoneStep t) (i : Station) (u : Setup) (b : Bar) (m : Option Nat) :
    s.ZoneStep (t.takeLoad i u b m) := by
  unfold State.takeLoad
  refine State.ZoneStep.leadEvaluate (State.ZoneStep.modStation ?_ i _ id) i
  split
  · split
    · exact h.raiseEvent _ _ _
    · exact h
  · exact h

theorem State.ZoneStep.countDrift (h : s.ZoneStep t) (i : Station) (pitch : Nat) (advance : Option Nat) :
    s.ZoneStep (t.countDrift i pitch advance) := by
  unfold State.countDrift
  split
  · exact h
  · split
    · split
      · exact (h.modStation i _ id).raiseEvent _ _ _
      · exact h.modStation i _ id
    · exact h.modStation i _ id

theorem State.ZoneStep.takePart (h : s.ZoneStep t) (i : Station) (u : Setup) (acc : Account) (c : Nat) (scrap : Bool)
    (advance : Option Nat) : s.ZoneStep (t.takePart i u acc c scrap advance) := by
  unfold State.takePart
  extract_lets r isEnding d s1 s2 s3 s4 g s5
  have h3 : s.ZoneStep s3 := ((h.modStation i _ id).countDrift i u.pitch advance).setSpindle i _
  have h4 : s.ZoneStep s4 := by
    simp only [s4]
    split
    · exact h3.raiseEvent _ _ _
    · exact h3
  exact ((h4.modStation i _ id).fillTote i u _).leadEvaluate i

theorem State.ZoneStep.takeBarEnd (h : s.ZoneStep t) (i : Station) (u : Setup) (acc : Account) (m : Option Nat) :
    s.ZoneStep (t.takeBarEnd i u acc m) := by
  unfold State.takeBarEnd
  refine State.ZoneStep.stationEvaluate (State.ZoneStep.modStation ?_ i _ id) i
  split
  · split
    · exact h.raiseEvent _ _ _
    · exact h
  · exact h

theorem State.ZoneStep.recheckJob (h : s.ZoneStep t) (i : Station) (changed : Bool) (u : Setup) :
    s.ZoneStep (t.recheckJob i changed u) := by
  unfold State.recheckJob
  split
  · exact h
  · split
    · exact h.keep (by simp) (by simp)
    · extract_lets fits
      split
      · exact h.keep (by simp) (by simp)
      · exact h

theorem State.ZoneStep.recomputeParts (h : s.ZoneStep t) (i : Station) (u : Setup) :
    s.ZoneStep (t.recomputeParts i u) := by
  unfold State.recomputeParts
  split
  · exact h.setSpindle i _
  · exact h

theorem State.ZoneStep.applySetup (h : s.ZoneStep t) (i : Station) (u : Setup) : s.ZoneStep (t.applySetup i u) := by
  unfold State.applySetup
  extract_lets old changed s1 s2
  have h2 : s.ZoneStep s2 := State.ZoneStep.newCapacity (h.modStation i _ id) i u
  cases old with
  | unset => exact h2.stationEvaluate i
  | noBar | starved => exact (h2.recheckJob i changed u).stationEvaluate i
  | running | low | ending => exact ((h2.recomputeParts i u).recheckJob i changed u).leadEvaluate i

/-! ### Restart and link -/

theorem State.ZoneStep.removeJobs (js : List Job) : ∀ {t : State}, s.ZoneStep t → s.ZoneStep (t.removeJobs js) := by
  induction js with
  | nil => exact id
  | cons j js ih => exact fun h => ih (h.keep (by simp) (by simp))

theorem State.ZoneStep.demoteCurrent (h : s.ZoneStep t) (i : Station) : s.ZoneStep (t.demoteCurrent i) := by
  unfold State.demoteCurrent
  split
  · split
    · exact h.modCurrent _
    · exact h
  · exact h

theorem State.ZoneStep.dropStationRecords (h : s.ZoneStep t) (i : Station) : s.ZoneStep (t.dropStationRecords i) :=
  h.keep rfl fun _ => rfl

/-- A restart closes a zone only where it is not IN_USE (R152). -/
theorem State.ZoneStep.clearStation (h : s.ZoneStep t) (i : Station) : s.ZoneStep (t.clearStation i) := by
  unfold State.clearStation
  exact State.ZoneStep.dropStationRecords (h.modStation i _ fun hz => if_pos hz) i

theorem State.ZoneStep.restart (h : s.ZoneStep t) (i : Station) (l : Link) : s.ZoneStep (t.restart i l) := by
  unfold State.restart
  extract_lets s1 s2
  have h2 : s.ZoneStep s2 := (((State.ZoneStep.removeJobs _ h).demoteCurrent i).clearStation i).setLink i l
  split
  · refine State.ZoneStep.toteAttach ?_ i
    split
    · exact h2.notify _ _
    · exact h2
  · exact h2

theorem State.ZoneStep.linkReturn (h : s.ZoneStep t) (i : Station) : s.ZoneStep (t.linkReturn i) := by
  unfold State.linkReturn
  split
  · refine State.ZoneStep.keep (State.ZoneStep.evaluateIfIdle ?_ i) rfl fun _ => rfl
    exact (h.setLink i .up).keep (by simp) (by simp)
  · exact h

theorem State.ZoneStep.restartAll (is : List Station) :
    ∀ {t : State}, s.ZoneStep t → s.ZoneStep (t.restartAll is) := by
  induction is with
  | nil => exact id
  | cons i is ih => exact fun h => ih (h.restart i _)

theorem State.ZoneStep.reevaluate (h : s.ZoneStep t) (i : Station) : s.ZoneStep (t.reevaluate i) := by
  unfold State.reevaluate
  split
  · exact h
  · extract_lets s1 s2
    have h1 : s.ZoneStep s1 := by
      simp only [s1]
      split
      · exact h.keep (by simp) (by simp)
      · exact h
    refine State.ZoneStep.toteEvaluate ?_ i
    simp only [s2]
    split
    · exact h1
    · exact h1.stationEvaluate i
    · exact h1.stationEvaluate i
    · exact h1.leadEvaluate i

theorem State.ZoneStep.reevaluateAll (is : List Station) :
    ∀ {t : State}, s.ZoneStep t → s.ZoneStep (t.reevaluateAll is) := by
  induction is with
  | nil => exact id
  | cons i is ih => exact fun h => ih (h.reevaluate i)

/-! ### Ports, expiries and pool -/

theorem State.ZoneStep.countError (h : s.ZoneStep t) (p : Port) : s.ZoneStep (t.countError p) := by
  unfold State.countError
  extract_lets n _ s1
  have h1 : s.ZoneStep s1 := by
    simp only [s1]
    split
    · exact h.modStation _ _ id
    · exact h.keep rfl fun _ => rfl
  split
  · exact h
  · split
    · exact h1.raiseEvent _ _ _
    · exact h1

theorem State.ZoneStep.discardFrame (h : s.ZoneStep t) (p : Port) : s.ZoneStep (t.discardFrame p) := by
  unfold State.discardFrame
  split
  · exact h.countError p
  · exact h

theorem State.ZoneStep.setReceiver (h : s.ZoneStep t) (p : Port) (r : Receiver) : s.ZoneStep (t.setReceiver p r) := by
  unfold State.setReceiver
  split
  · exact h.modStation _ _ id
  · exact h.keep rfl fun _ => rfl

theorem State.ZoneStep.dropGathered (h : s.ZoneStep t) (p : Port) : s.ZoneStep (t.dropGathered p) := by
  unfold State.dropGathered
  split
  · exact (h.setReceiver p .hunt).discardFrame p
  · exact h

theorem State.ZoneStep.expireLink (h : s.ZoneStep t) (i : Station) : s.ZoneStep (t.expireLink i) := by
  unfold State.expireLink
  split
  · exact (h.setLink i (.lost t.clock false)).keep (by simp) (by simp)
  · exact h

theorem State.ZoneStep.expireResHold (h : s.ZoneStep t) (i : Station) : s.ZoneStep (t.expireResHold i) := by
  unfold State.expireResHold
  split
  · refine State.ZoneStep.settle ?_
    unfold State.takeResHold
    split
    · rename_i since _ _
      have h1 : s.ZoneStep (t.setLink i (.lost since true)) := h.setLink i _
      dsimp only
      split
      · exact h1.keep (by simp) (by simp)
      · exact h1
    · exact h
  · exact h

theorem State.ZoneStep.expireBackoff (h : s.ZoneStep t) (n : Nat) : s.ZoneStep (t.expireBackoff n) := by
  unfold State.expireBackoff
  split
  · split
    · exact State.ZoneStep.settle (h.keep (by simp) (by simp))
    · exact h
  · exact h

/-- Open-until expires only where the zone is OPEN (R146). -/
theorem State.ZoneStep.expireOpen (h : s.ZoneStep t) (i : Station) : s.ZoneStep (t.expireOpen i) := by
  unfold State.expireOpen
  split
  · rename_i hdue
    refine h.modStation i _ fun hz => ?_
    simp [State.openUntilDue, hz] at hdue
  · exact h

theorem State.ZoneStep.dueAtOnce (h : s.ZoneStep t) (n : Nat) : s.ZoneStep (t.dueAtOnce n) := by
  unfold State.dueAtOnce
  split
  · exact State.linksDueNow_keeps s.ZoneStep (fun _ i hu => hu.expireLink i) t h
  · exact State.resHoldsDueNow_keeps s.ZoneStep (fun _ i hu => hu.expireResHold i)
      (fun _ _ hu => hu.keep rfl fun _ => rfl) t h
  · exact h

theorem State.ZoneStep.setHallParam (h : s.ZoneStep t) (n v : Nat) : s.ZoneStep (t.setHallParam n v) := by
  unfold State.setHallParam
  split <;> exact h.keep (by simp) (by simp)

theorem State.ZoneStep.declareTote (h : s.ZoneStep t) (i : Station) (c : Nat) : s.ZoneStep (t.declareTote i c) := by
  unfold State.declareTote
  extract_lets _ s1 s2
  have h1 : s.ZoneStep s1 := h.keep (by simp [s1]) (by simp [s1])
  refine ((State.ZoneStep.setTote ?_ i _).notify i _).toteEvaluate i
  simp only [s2]
  split
  · split
    · exact h1.keep (by simp) (by simp)
    · exact h1
  · exact h1

/-! ### Answers of the supervisor port -/

theorem State.ZoneStep.ok (h : s.ZoneStep t) (w : Write) (p : List Byte) : s.ZoneStep (t.ok w p) :=
  h.keep rfl fun _ => rfl

theorem State.ZoneStep.data (h : s.ZoneStep t) (w : Write) (p : List Byte) : s.ZoneStep (t.data w p) :=
  h.keep rfl fun _ => rfl

theorem State.ZoneStep.refuse (h : s.ZoneStep t) (w : Write) (r : Reason) (n : Nat) : s.ZoneStep (t.refuse w r n) :=
  h.keep rfl fun _ => rfl

end

/-! ### Rest and the end of a job

Where a job ends or is re-queued, and where a return sets out, the shuttle reaches into no zone. -/

section
variable {s t : State}

theorem State.enterRest_zoneReached (s : State) : s.enterRest.zoneReached = none := by
  unfold State.enterRest
  split <;> rfl

theorem State.ZoneStep.offerAll (e : Option Nat) (ks : List SlotIx) :
    ∀ {t : State}, s.ZoneStep t → s.ZoneStep (t.offerAll e ks) := by
  induction ks with
  | nil => exact id
  | cons k ks ih => exact fun h => ih (h.keep (by simp) (by simp))

/-- A job that ends leaves the shuttle where its rest leaves it (R99). -/
theorem State.endCurrent_zoneReached (s : State) (c : Current) (freed : List SlotIx) (rest : State → State)
    (hrest : ∀ v, (rest v).zoneReached = none) : (s.endCurrent c freed rest).zoneReached = none := by
  unfold State.endCurrent
  dsimp only
  split
  · exact (State.ZoneStep.offerAll none _ (.refl _)).reaches_none (hrest _)
  · exact (State.ZoneStep.offerAll none _ (.refl _)).reaches_none (hrest _)

theorem State.endJob_zoneReached (s : State) (c : Current) : (s.endJob c).zoneReached = none := by
  refine s.endCurrent_zoneReached c [] _ fun v => ?_
  dsimp only
  split
  · exact ((State.ZoneStep.refl v.enterIdle).toteEvaluate _).reaches_none rfl
  · rfl

theorem State.reQueue_zoneReached (s : State) (c : Current) : (s.reQueue c).zoneReached = none :=
  State.zoneReached_congr (State.testPool_shuttle _) |>.trans rfl

/-- At the end of a return the shuttle is IDLE (R134). -/
theorem State.returnEnd_zoneReached (s : State) (c : Current) (d : Disposition) (put : Option (Bar × SlotIx)) :
    (s.returnEnd c d put).zoneReached = none := by
  unfold State.returnEnd
  split
  · exact State.reQueue_zoneReached _ c
  · extract_lets s1
    have h1 : s1.zoneReached = none := by
      simp only [s1]
      split
      · exact State.endCurrent_zoneReached _ c _ _ fun _ => rfl
      · exact State.endCurrent_zoneReached _ c _ _ fun _ => rfl
    split
    · unfold State.evaluateAfterReturn
      split
      · exact ((State.ZoneStep.refl s1).stationEvaluate _).reaches_none h1
      · exact h1
    · exact h1

/-- A return sets out on a TRAVEL, or is at its end (R133). -/
theorem State.startReturn_zoneReached (s : State) (c : Current) (d : Disposition) :
    (s.startReturn c d).zoneReached = none := by
  unfold State.startReturn
  dsimp only
  split
  · rfl
  · rfl
  · rfl
  · exact s.returnEnd_zoneReached _ d none

/-- The moves of a return go to a slot, the stand or the lane (R133, R134). -/
theorem State.returnPhaseDone_zoneStep (s : State) (c : Current) (d : Disposition) :
    s.ZoneStep (s.returnPhaseDone c d) ∨ (s.returnPhaseDone c d).zoneReached = none := by
  unfold State.returnPhaseDone
  split
  · split
    · exact .inr rfl
    · exact .inl (.refl s)
  · exact .inr rfl
  · exact .inr rfl
  · split
    · exact .inr (State.returnEnd_zoneReached _ c d _)
    · exact .inl (.refl s)
  · exact .inr (State.returnEnd_zoneReached _ c d none)
  · exact .inr (State.returnEnd_zoneReached _ _ d none)
  · exact .inl (.refl s)

/-! ### The zone wait -/

/-- The admission makes the zone IN_USE before it issues the move into it (R143). -/
theorem State.admitVisit_zoneHeld (s : State) (c : Current) : (s.admitVisit c).ZoneHeld := by
  have inside : ((s.setZone c.job.station .inUse).station c.job.station).zone = .inUse := by simp [State.setZone]
  unfold State.admitVisit
  dsimp only
  split
  · rintro j ⟨⟩
    rwa [State.goPhase_station]
  · rintro j ⟨⟩
    rwa [State.goPhase_station]
  · rintro j ⟨⟩
    rwa [State.goPhase_station]

/-- A declined visit goes on waiting, or its return sets out (R144, R149). -/
theorem State.decline_zoneReached (s : State) (c : Current) (deadline : Time) (remaining : Nat) :
    (s.decline c deadline remaining).zoneReached = none := by
  unfold State.decline
  extract_lets i n _ c1 h s1
  split
  · exact State.startReturn_zoneReached _ c1 .reQueue
  · exact State.zoneReached_congr (State.notify_shuttle _ _ _)

theorem State.admission_zoneHeld (s : State) (i : Station) (h : s.ZoneHeld) : (s.admission i).ZoneHeld := by
  unfold State.admission
  split
  · split
    · dsimp only
      split
      · exact s.admitVisit_zoneHeld _
      · exact .of_none (s.decline_zoneReached _ _ _)
    · exact h
  · exact h

/-- A wait begins with the shuttle at rest before the zone (R141). -/
theorem State.beginWait_zoneHeld (s : State) (c : Current) : (s.beginWait c).ZoneHeld := by
  unfold State.beginWait
  extract_lets i s1
  have h1 : s1.ZoneHeld := .of_none rfl
  split
  · exact .of_none rfl
  · exact s1.admission_zoneHeld i h1
  · exact h1

theorem State.arrive_zoneHeld (s : State) (c : Current) : (s.arrive c).ZoneHeld :=
  State.beginWait_zoneHeld _ c

/-! ### Moves done -/

theorem State.jobPhaseDone_zoneHeld (s : State) (c : Current) (h : s.ZoneHeld) : (s.jobPhaseDone c).ZoneHeld := by
  unfold State.jobPhaseDone
  dsimp only
  split
  · split
    · exact .of_none rfl
    · exact h
  · split
    · exact .of_none rfl
    · exact h
  · exact .of_none rfl
  · exact .of_none rfl
  · exact s.arrive_zoneHeld c
  · exact .of_none (State.endJob_zoneReached _ c)
  · exact .of_none rfl
  · exact .of_none (State.endJob_zoneReached _ c)
  · exact .of_none rfl
  · exact .of_none (State.endJob_zoneReached _ _)
  · exact h
  · exact h

theorem State.phaseDone_zoneHeld (s : State) (c : Current) (h : s.ZoneHeld) : (s.phaseDone c).ZoneHeld := by
  unfold State.phaseDone
  split
  · exact .of_none (s.endCurrent_zoneReached c [] _ fun _ => rfl)
  · split
    · exact (s.returnPhaseDone_zoneStep c _).elim (·.held h) .of_none
    · exact s.jobPhaseDone_zoneHeld c h

theorem State.workDone_zoneHeld (s : State) (w : Work) (h : s.ZoneHeld) : (s.workDone w).ZoneHeld := by
  cases w with
  | job c => exact s.phaseDone_zoneHeld c h
  | manual => exact .of_none rfl

/-! ### The drive port -/

theorem State.ZoneStep.setShuttle (h : s.ZoneStep t) (x : Shuttle)
    (hx : (t.setShuttle x).zoneReached = t.zoneReached ∨ (t.setShuttle x).zoneReached = none) :
    s.ZoneStep (t.setShuttle x) :=
  h.trans ⟨hx, fun _ hi => hi⟩

/-- A fault keeps its move, and with it the zone it reaches into (R151, R155). -/
theorem State.ZoneStep.enterFault (h : s.ZoneStep t) (cause : FaultCause) (detail : Nat) :
    s.ZoneStep (t.enterFault cause detail) := by
  unfold State.enterFault
  dsimp only
  split
  · rename_i w m hs
    exact (h.setShuttle _ (.inl (by simp [State.zoneReached, hs]))).raiseEvent _ _ _
  · exact (h.setShuttle _ (.inr rfl)).raiseEvent _ _ _
  · exact h

theorem State.ZoneStep.huntDrive (h : s.ZoneStep t) : s.ZoneStep t.huntDrive := h.keep rfl fun _ => rfl

theorem State.driveDone_zoneHeld (s : State) (tag : Nat) (h : s.ZoneHeld) : (s.driveDone tag).ZoneHeld := by
  have stale : s.staleAnswer.ZoneHeld := ((State.ZoneStep.refl s).countError .drive).held h
  unfold State.driveDone
  split
  · split
    · exact s.workDone_zoneHeld _ h
    · exact stale
  · exact stale

theorem State.ZoneStep.driveFault (h : s.ZoneStep t) (tag code : Nat) : s.ZoneStep (t.driveFault tag code) := by
  have stale : s.ZoneStep t.staleAnswer := h.countError .drive
  unfold State.driveFault
  split
  · split
    · exact h.enterFault _ _
    · exact stale
  · split
    · rename_i w f m hs _
      exact (h.setShuttle _ (.inl (by simp [State.zoneReached, hs]))).raiseEvent _ _ _
    · exact stale
  · exact stale

/-- A shuttle that becomes IDLE reaches into no zone. -/
theorem State.ZoneStep.enterIdle (h : s.ZoneStep t) : s.ZoneStep t.enterIdle :=
  h.trans ⟨.inr rfl, fun _ hi => hi⟩

/-- A shuttle that becomes OFFLINE reaches into no zone. -/
theorem State.ZoneStep.enterOffline (h : s.ZoneStep t) : s.ZoneStep t.enterOffline :=
  h.trans ⟨.inr rfl, fun _ hi => hi⟩

theorem State.ZoneStep.drivePing (h : s.ZoneStep t) (tag : Nat) : s.ZoneStep (t.drivePing tag) := by
  unfold State.drivePing
  split
  · extract_lets _ s1
    have h1 : s.ZoneStep s1 := h.keep rfl fun _ => rfl
    split
    · exact h1.enterIdle
    · exact h1
  · exact h.countError .drive

theorem State.ZoneStep.readyRise (h : s.ZoneStep t) : s.ZoneStep t.readyRise := by
  unfold State.readyRise
  split
  · exact h
  · split
    · exact State.ZoneStep.enterIdle (h.keep rfl fun _ => rfl)
    · exact h.keep rfl fun _ => rfl

theorem State.ZoneStep.readyFall (h : s.ZoneStep t) : s.ZoneStep t.readyFall := by
  unfold State.readyFall
  split
  · extract_lets _ s1
    have h1 : s.ZoneStep s1 := h.keep rfl fun _ => rfl
    split
    · exact h1.enterOffline
    · exact h1.enterOffline
    · exact h1.enterFault _ _
    · exact h1.enterFault _ _
    · exact h1
  · exact h

theorem State.ZoneStep.sendPing (h : s.ZoneStep t) : s.ZoneStep t.sendPing := by
  unfold State.sendPing
  split
  · extract_lets missed tag n _ s1
    have h1 : s.ZoneStep s1 := h.keep rfl fun _ => rfl
    split
    · exact h1.enterOffline.raiseEvent _ _ _
    · exact h1
  · exact h

theorem State.ZoneStep.expireMove (h : s.ZoneStep t) : s.ZoneStep t.expireMove := by
  unfold State.expireMove
  split
  · split
    · exact h.enterFault _ _
    · exact h
  · exact h

theorem State.drivePortDone_zoneHeld (s : State) (tag : Byte) (h : s.ZoneHeld) : (s.drivePortDone tag).ZoneHeld :=
  have hunting : s.huntDrive.ZoneHeld := (State.ZoneStep.refl s).huntDrive.held h
  (State.ZoneStep.settle (.refl _)).held (s.huntDrive.driveDone_zoneHeld tag.toNat hunting)

theorem State.ZoneStep.drivePortFault (h : s.ZoneStep t) (tag code : Byte) :
    s.ZoneStep (t.drivePortFault tag code) := by
  unfold State.drivePortFault
  split
  · exact h.huntDrive.discardFrame .drive
  · exact h.huntDrive.driveFault _ _

theorem State.ZoneStep.drivePortPing (h : s.ZoneStep t) (tag : Byte) : s.ZoneStep (t.drivePortPing tag) :=
  (h.huntDrive.drivePing _).settle

/-- The zone wait deadline ends the wait by a return (R148, R149). -/
theorem State.expireZoneWait_zoneHeld (s : State) (h : s.ZoneHeld) : s.expireZoneWait.ZoneHeld := by
  unfold State.expireZoneWait
  split
  · split
    · exact (State.ZoneStep.settle (.refl _)).held (.of_none (State.startReturn_zoneReached _ _ .reQueue))
    · exact h
  · exact h

/-! ### Requests of a station -/

theorem State.request_zoneHeld (s : State) (i : Station) (returns : Bool) (apply : State → State × Frame)
    (happly : ∀ v, v.ZoneHeld → (apply v).1.ZoneHeld) (h : s.ZoneHeld) : (s.request i returns apply).ZoneHeld := by
  unfold State.request
  split
  · extract_lets s1 s2 p
    have h2 : s.ZoneStep s2 := by
      have h1 : s.ZoneStep s1 := (State.ZoneStep.refl s).modStation i _ id
      simp only [s2]
      split
      · exact h1.linkReturn i
      · exact h1
    have hp : p.1.ZoneHeld := happly _ (State.ZoneStep.held (h2.modStation i _ id) h)
    exact (State.ZoneStep.settle ((State.ZoneStep.refl p.1).modStation i _ id)).held hp
  · exact ((State.ZoneStep.refl s).modStation i _ id).held h

/-- What keeps the invariant when applied keeps it as a request, also where DETACHED refuses it (R52). -/
theorem State.attachedRequest_zoneHeld (s : State) (i : Station) (type : Byte) (apply : State → State × Frame)
    (happly : ∀ v, v.ZoneHeld → (apply v).1.ZoneHeld) (h : s.ZoneHeld) :
    (s.attachedRequest i type apply).ZoneHeld := by
  refine s.request_zoneHeld i true _ (fun v hv => ?_) h
  split
  · exact hv
  · exact happly v hv

theorem State.helloRequest_zoneHeld (s : State) (i : Station) (h : s.ZoneHeld) : (s.helloRequest i).ZoneHeld := by
  refine s.request_zoneHeld i false _ (fun v hv => State.ZoneStep.held (s := v) ?_ hv) h
  dsimp only
  split
  · exact ((State.ZoneStep.refl v).setLink i .up).toteAttach i
  · exact (State.ZoneStep.refl v).restart i .up

theorem State.setupRequest_zoneHeld (s : State) (i : Station) (f : SetupFields) (h : s.ZoneHeld) :
    (s.setupRequest i f).ZoneHeld := by
  refine s.attachedRequest_zoneHeld i _ _ (fun v hv => ?_) h
  split
  · exact hv
  · exact ((State.ZoneStep.refl v).applySetup i _).held hv
  · exact hv

theorem State.loadWith_zoneHeld (s : State) (i : Station) (u : Setup) (m : Option (BitVec 32)) (h : s.ZoneHeld) :
    (s.loadWith i u m).1.ZoneHeld := by
  unfold State.loadWith
  split
  · exact h
  · split
    · exact ((State.ZoneStep.refl s).takeLoad i u _ _).held h
    · exact h

theorem State.loadRequest_zoneHeld (s : State) (i : Station) (m : Option (BitVec 32)) (h : s.ZoneHeld) :
    (s.loadRequest i m).ZoneHeld := by
  refine s.attachedRequest_zoneHeld i _ _ (fun v hv => ?_) h
  split
  · exact v.loadWith_zoneHeld i _ m hv
  · exact v.loadWith_zoneHeld i _ m hv
  · exact hv

theorem State.partOffRequest_zoneHeld (s : State) (i : Station) (count : BitVec 16) (scrap : Byte)
    (a : Option (BitVec 32)) (h : s.ZoneHeld) : (s.partOffRequest i count scrap a).ZoneHeld := by
  refine s.attachedRequest_zoneHeld i _ _ (fun v hv => ?_) h
  split
  · split
    · exact hv
    · split
      · exact hv
      · split
        · exact hv
        · dsimp only
          exact ((State.ZoneStep.refl v).takePart i _ _ _ _ _).held hv
  · exact hv

theorem State.barEndRequest_zoneHeld (s : State) (i : Station) (m : Option (BitVec 32)) (h : s.ZoneHeld) :
    (s.barEndRequest i m).ZoneHeld := by
  refine s.attachedRequest_zoneHeld i _ _ (fun v hv => ?_) h
  split
  · split
    · exact hv
    · exact ((State.ZoneStep.refl v).takeBarEnd i _ _ _).held hv
  · exact hv

/-- A zone that is not IN_USE may be given another state. -/
theorem State.ZoneStep.setZone_of_free (h : s.ZoneStep t) (i : Station) (z : Zone) (hz : (t.station i).zone ≠ .inUse) :
    s.ZoneStep (t.setZone i z) :=
  h.modStation i _ fun hi => absurd hi hz

theorem State.grantRequest_zoneHeld (s : State) (i : Station) (w : BitVec 16) (h : s.ZoneHeld) :
    (s.grantRequest i w).ZoneHeld := by
  refine s.attachedRequest_zoneHeld i _ _ (fun v hv => ?_) h
  split
  · exact hv
  · split
    · exact hv
    · rename_i hfree
      exact State.admission_zoneHeld _ i (((State.ZoneStep.refl v).setZone_of_free i _ hfree).held hv)

theorem State.closeRequest_zoneHeld (s : State) (i : Station) (h : s.ZoneHeld) : (s.closeRequest i).ZoneHeld := by
  refine s.attachedRequest_zoneHeld i _ _ (fun v hv => ?_) h
  split
  · exact hv
  · rename_i hfree
    exact ((State.ZoneStep.refl v).setZone_of_free i _ hfree).held hv

theorem State.ZoneStep.jobBytes (h : s.ZoneStep t) (b : Bool) (i : Station) : s.ZoneStep (t.jobBytes b i).1 := by
  unfold State.jobBytes
  split
  · exact h
  · exact h
  · exact h.keep rfl fun _ => rfl

theorem State.statusRequest_zoneHeld (s : State) (i : Station) (page : Option Byte) (h : s.ZoneHeld) :
    (s.statusRequest i page).ZoneHeld := by
  refine s.attachedRequest_zoneHeld i _ _ (fun v hv => ?_) h
  have h2 := ((State.ZoneStep.refl v).evaluateIfIdle i).toteEvaluate i
  dsimp only
  split
  · exact hv
  · split
    · exact ((h2.jobBytes true i).jobBytes false i).held hv
    · exact h2.held hv

theorem State.detachRequest_zoneHeld (s : State) (i : Station) (h : s.ZoneHeld) : (s.detachRequest i).ZoneHeld :=
  s.attachedRequest_zoneHeld i _ _ (fun v hv => ((State.ZoneStep.refl v).restart i .detached).held hv) h

theorem State.unknownTypeRequest_zoneHeld (s : State) (i : Station) (type : Byte) (h : s.ZoneHeld) :
    (s.unknownTypeRequest i type).ZoneHeld :=
  s.request_zoneHeld i true _ (fun _ hv => hv) h

/-! ### Bytes at a port -/

theorem State.handOn_zoneHeld (s : State) (c : Instr) (h : s.ZoneHeld) : (s.handOn c).ZoneHeld := by
  unfold State.handOn
  split
  · exact s.helloRequest_zoneHeld _ h
  · exact s.setupRequest_zoneHeld _ _ h
  · exact s.loadRequest_zoneHeld _ _ h
  · exact s.partOffRequest_zoneHeld _ _ _ _ h
  · exact s.barEndRequest_zoneHeld _ _ h
  · exact s.grantRequest_zoneHeld _ _ h
  · exact s.closeRequest_zoneHeld _ h
  · exact s.statusRequest_zoneHeld _ _ h
  · exact s.detachRequest_zoneHeld _ h
  · exact s.unknownTypeRequest_zoneHeld _ _ h
  · exact s.drivePortDone_zoneHeld _ h
  · exact ((State.ZoneStep.refl s).drivePortFault _ _).held h
  · exact ((State.ZoneStep.refl s).drivePortPing _).held h
  · exact h

theorem State.receiveByte_zoneHeld (s : State) (p : Port) (b : Byte) (h : s.ZoneHeld) :
    (s.receiveByte p b).ZoneHeld := by
  unfold State.receiveByte
  extract_lets r s1
  have h1 : s.ZoneStep s1 := (State.ZoneStep.refl s).setReceiver p r.1
  split
  · exact h1.held h
  · exact (h1.discardFrame p).held h
  · split
    · exact s1.handOn_zoneHeld _ (h1.held h)
    · exact (h1.discardFrame p).held h

theorem State.receiveBytes_zoneHeld (p : Port) (bs : List Byte) :
    ∀ s : State, s.ZoneHeld → (s.receiveBytes p bs).ZoneHeld := by
  induction bs with
  | nil => exact fun _ h => h
  | cons b bs ih => exact fun s h => ih _ (s.receiveByte_zoneHeld p b h)

end

/-! ### The supervisor port -/

section
variable {s t : State}

theorem State.ZoneStep.stockEnterCommand (h : s.ZoneStep t) (w : Write) : s.ZoneStep (t.stockEnterCommand w) := by
  unfold State.stockEnterCommand
  split
  · split
    · exact h.refuse w _ _
    · split
      · refine State.ZoneStep.data (State.ZoneStep.settle ?_) w _
        exact h.keep (by simp [State.enterStock]) (by simp [State.enterStock, State.station])
      · exact h.refuse w _ _
    · exact h.refuse w _ _
  · exact h.refuse w _ _

theorem State.ZoneStep.stockRemoveCommand (h : s.ZoneStep t) (w : Write) : s.ZoneStep (t.stockRemoveCommand w) := by
  have removed (k : SlotIx) (v : Slot) : s.ZoneStep (t.setSlot k v) := h.keep rfl fun _ => rfl
  have forced (k : SlotIx) (n : Nat) : s.ZoneStep (t.forceRemove k n) := by
    unfold State.forceRemove
    dsimp only
    split <;> exact h.keep (by simp) (by simp)
  unfold State.stockRemoveCommand
  split
  · split
    · exact h.refuse w _ _
    · split
      · exact h.refuse w _ _
      · split
        · exact h.refuse w _ _
        · exact (removed _ _).data w _
        · split
          · exact (forced _ _).settle.data w _
          · exact h.refuse w _ _
        · exact h.refuse w _ _
        · exact (removed _ _).data w _
        · exact h.refuse w _ _
  · exact h.refuse w _ _

theorem State.ZoneStep.slotBlockCommand (h : s.ZoneStep t) (w : Write) : s.ZoneStep (t.slotBlockCommand w) := by
  have blocked (k : SlotIx) (v : Slot) : s.ZoneStep (t.setSlot k v) := h.keep rfl fun _ => rfl
  unfold State.slotBlockCommand
  split
  · split
    · exact h.refuse w _ _
    · split
      · exact (blocked _ _).ok w _
      · exact (blocked _ _).ok w _
      · exact h.ok w _
      · exact h.refuse w _ _
      · exact h.refuse w _ _
  · exact h.refuse w _ _

theorem State.ZoneStep.slotUnblockCommand (h : s.ZoneStep t) (w : Write) : s.ZoneStep (t.slotUnblockCommand w) := by
  unfold State.slotUnblockCommand
  split
  · split
    · exact h.refuse w _ _
    · split
      · refine State.ZoneStep.ok (State.ZoneStep.settle ?_) w _
        exact h.keep (by simp) (by simp)
      · refine State.ZoneStep.ok ?_ w _
        exact h.keep rfl fun _ => rfl
      · exact h.refuse w _ _
  · exact h.refuse w _ _

theorem State.ZoneStep.tableCursorCommand (h : s.ZoneStep t) (w : Write) : s.ZoneStep (t.tableCursorCommand w) := by
  unfold State.tableCursorCommand
  split
  · split
    · exact h.refuse w _ _
    · split
      · exact h.keep rfl fun _ => rfl
      · exact h.refuse w _ _
  · exact h.refuse w _ _

theorem State.ZoneStep.tableReadCommand (h : s.ZoneStep t) (w : Write) : s.ZoneStep (t.tableReadCommand w) := by
  unfold State.tableReadCommand
  split
  · exact h.keep rfl fun _ => rfl
  · exact h.refuse w _ _

theorem State.ZoneStep.hallParamCommand (h : s.ZoneStep t) (w : Write) : s.ZoneStep (t.hallParamCommand w) := by
  unfold State.hallParamCommand
  split
  · split
    · exact h.refuse w _ _
    · split
      · exact h.data w _
      · split
        · exact ((h.setHallParam _ _).settle.dueAtOnce _).ok w _
        · exact h.refuse w _ _
  · exact h.refuse w _ _

theorem State.ZoneStep.setArbiter (h : s.ZoneStep t) (a : Arbiter) : s.ZoneStep (t.setArbiter a) :=
  h.keep rfl fun _ => rfl

theorem State.ZoneStep.setPresent (h : s.ZoneStep t) (i : Station) (v : Nat) (w : Write) :
    s.ZoneStep (t.setPresent i v w) := by
  unfold State.setPresent
  split
  · exact (h.modStation i _ id).ok w _
  · split
    · exact State.ZoneStep.ok (State.ZoneStep.setArbiter (h.modStation i _ id) _) w _
    · exact h.refuse w _ _

theorem State.ZoneStep.stationParamCommand (h : s.ZoneStep t) (w : Write) : s.ZoneStep (t.stationParamCommand w) := by
  unfold State.stationParamCommand
  split
  · split
    · exact h.refuse w _ _
    · split
      · split
        · exact h.data w _
        · split
          · exact (h.modStation _ _ id).ok w _
          · exact h.refuse w _ _
      · split
        · exact h.data w _
        · split
          · exact h.setPresent _ _ w
          · exact h.refuse w _ _
      · exact h.refuse w _ _
  · exact h.refuse w _ _

theorem State.ZoneStep.arbiterCommand (h : s.ZoneStep t) (w : Write) : s.ZoneStep (t.arbiterCommand w) := by
  unfold State.arbiterCommand
  split
  · split
    · exact h.refuse w _ _
    · exact h.keep rfl fun _ => rfl
  · exact h.refuse w _ _

theorem State.ZoneStep.hallHoldCommand (h : s.ZoneStep t) (w : Write) : s.ZoneStep (t.hallHoldCommand w) := by
  unfold State.hallHoldCommand
  split
  · split
    · exact h.refuse w _ _
    · refine State.ZoneStep.ok (State.ZoneStep.settle ?_) w _
      dsimp only
      split <;> exact h.keep rfl fun _ => rfl
  · exact h.refuse w _ _

theorem State.ZoneStep.stationHoldCommand (h : s.ZoneStep t) (w : Write) : s.ZoneStep (t.stationHoldCommand w) := by
  have held (a : Nat) (m : BitVec 16) : s.ZoneStep (t.applyHold a m) := by
    unfold State.applyHold
    split
    · exact h.keep rfl fun _ => rfl
    · dsimp only
      split <;> exact h.keep rfl fun _ => rfl
  unfold State.stationHoldCommand
  split
  · split
    · exact h.refuse w _ _
    · split
      · exact h.refuse w _ _
      · exact (held _ _).settle.ok w _
  · exact h.refuse w _ _

theorem State.ZoneStep.setPool (h : s.ZoneStep t) (p : Pool) : s.ZoneStep (t.setPool p) :=
  h.keep (by simp) (by simp)

theorem State.ZoneStep.toteAddCommand (h : s.ZoneStep t) (w : Write) : s.ZoneStep (t.toteAddCommand w) := by
  unfold State.toteAddCommand
  split
  · split
    · exact h.refuse w _ _
    · dsimp only
      split
      · exact h.refuse w _ _
      · exact (h.setPool _).settle.data w _
  · exact h.refuse w _ _

theorem State.ZoneStep.toteWithdrawCommand (h : s.ZoneStep t) (w : Write) : s.ZoneStep (t.toteWithdrawCommand w) := by
  unfold State.toteWithdrawCommand
  split
  · split
    · exact h.refuse w _ _
    · dsimp only
      split
      · exact h.refuse w _ _
      · exact (h.setPool _).settle.data w _
  · exact h.refuse w _ _

theorem State.ZoneStep.outboundClearedCommand (h : s.ZoneStep t) (w : Write) :
    s.ZoneStep (t.outboundClearedCommand w) := by
  unfold State.outboundClearedCommand
  split
  · dsimp only
    split
    · exact h.refuse w _ _
    · exact (h.setPool _).settle.data w _
  · exact h.refuse w _ _

theorem State.ZoneStep.stationToteCommand (h : s.ZoneStep t) (w : Write) : s.ZoneStep (t.stationToteCommand w) := by
  unfold State.stationToteCommand
  split
  · split
    · exact h.refuse w _ _
    · split
      · exact h.refuse w _ _
      · split
        · exact h.refuse w _ _
        · split
          · split
            · exact h.refuse w _ _
            · exact (h.declareTote _ _).settle.data w _
          · exact h.refuse w _ _
  · exact h.refuse w _ _

theorem State.ZoneStep.attentionReadCommand (h : s.ZoneStep t) (w : Write) : s.ZoneStep (t.attentionReadCommand w) := by
  unfold State.attentionReadCommand
  split
  · split
    · exact h.data w _
    · refine State.ZoneStep.data ?_ w _
      split <;> exact h.keep rfl fun _ => rfl
  · exact h.refuse w _ _

theorem State.ZoneStep.attentionClearCommand (h : s.ZoneStep t) (w : Write) :
    s.ZoneStep (t.attentionClearCommand w) := by
  unfold State.attentionClearCommand
  split
  · exact h.keep rfl fun _ => rfl
  · exact h.refuse w _ _

theorem State.ZoneStep.attentionEnableCommand (h : s.ZoneStep t) (w : Write) :
    s.ZoneStep (t.attentionEnableCommand w) := by
  unfold State.attentionEnableCommand
  split
  · split
    · exact h.refuse w _ _
    · exact h.keep rfl fun _ => rfl
  · exact h.refuse w _ _

theorem State.ZoneStep.attentionSummaryCommand (h : s.ZoneStep t) (w : Write) :
    s.ZoneStep (t.attentionSummaryCommand w) := by
  unfold State.attentionSummaryCommand
  split
  · exact h.data w _
  · exact h.refuse w _ _

theorem State.ZoneStep.modeCommand (h : s.ZoneStep t) (w : Write) : s.ZoneStep (t.modeCommand w) := by
  have toProduction : s.ZoneStep t.toProduction := by
    unfold State.toProduction
    split
    · exact h
    · exact h.keep rfl fun _ => rfl
  unfold State.modeCommand
  split
  · split
    · split
      · exact h.refuse w _ _
      · exact h.keep rfl fun _ => rfl
    · exact toProduction.settle.ok w _
    · exact h.refuse w _ _
  · exact h.refuse w _ _

theorem State.ZoneStep.commandByteArrives (h : s.ZoneStep t) (code : Byte) (n : Nat) :
    s.ZoneStep (t.commandByteArrives code n) := by
  unfold State.commandByteArrives
  split
  · exact h
  · exact h.keep rfl fun _ => rfl

theorem State.ZoneStep.readAnswer (h : s.ZoneStep t) (n : Nat) : s.ZoneStep (t.readAnswer n) := by
  unfold State.readAnswer
  split <;> exact h.keep rfl fun _ => rfl

theorem State.ZoneStep.cancelCommand (h : s.ZoneStep t) (w : Write) : s.ZoneStep (t.cancelCommand w) := by
  have flagged : s.ZoneStep t.setCancel := by
    unfold State.setCancel
    split
    · rename_i hs
      exact h.setShuttle _ (.inl (by simp [State.zoneReached, hs]))
    · exact h
  have current (c : Current) : s.ZoneStep (t.cancelCurrent c w) := by
    unfold State.cancelCurrent
    split
    · exact h.refuse w _ _
    · split
      · exact h.ok w _
      · split
        · exact flagged.ok w _
        · exact h.refuse w _ _
    · split
      · exact h.ok w _
      · exact h.refuse w _ _
  unfold State.cancelCommand
  split
  · dsimp only
    split
    · exact h.refuse w _ _
    · split
      · refine State.ZoneStep.ok (State.ZoneStep.settle ?_) w _
        exact h.keep (by simp) (by simp)
      · split
        · split
          · exact current _
          · exact h.refuse w _ _
        · exact h.refuse w _ _
  · exact h.refuse w _ _

/-- A manual move is a TRAVEL (R136). -/
theorem State.ZoneStep.manualCommand (h : s.ZoneStep t) (w : Write) : s.ZoneStep (t.manualCommand w) := by
  unfold State.manualCommand
  split
  · split
    · exact h.refuse w _ _
    · split
      · exact h.refuse w _ _
      · split
        · refine State.ZoneStep.ok ?_ w _
          exact h.trans ⟨.inr rfl, fun i hi => by simpa using hi⟩
        · exact h.refuse w _ _
  · exact h.refuse w _ _

theorem State.ZoneStep.stationRestartCommand (h : s.ZoneStep t) (w : Write) :
    s.ZoneStep (t.stationRestartCommand w) := by
  unfold State.stationRestartCommand
  split
  · split
    · exact h.refuse w _ _
    · exact (State.ZoneStep.restartAll _ h).settle.ok w _
  · exact h.refuse w _ _

/-! ### Recovery and resets -/

theorem State.resumeWait_zoneHeld (s : State) (w : Work) : (s.resumeWait w).ZoneHeld := by
  cases w with
  | job c => exact s.beginWait_zoneHeld c
  | manual => exact .of_none rfl

/-- RETRY issues the move of the fault again, into the zone that the fault has kept IN_USE (R151, R161). -/
theorem State.retry_zoneHeld (s : State) (w : Work) (f : FaultRec) (m : Option Move)
    (hs : s.shuttle = .fault w f m) (h : s.ZoneHeld) : (s.retry w m).ZoneHeld := by
  cases m with
  | none => exact s.resumeWait_zoneHeld w
  | some mv =>
    have hr : s.zoneReached = mv.intoZone := by simp [State.zoneReached, hs]
    intro i hi
    exact (congrArg StationRec.zone (s.issueMove_station w mv.target mv.action i)).trans (h i (hr ▸ hi))

theorem State.resume_zoneHeld (s : State) (w : Work) (m : Option Move) (h : s.ZoneHeld) : (s.resume w m).ZoneHeld := by
  cases m with
  | none => exact s.resumeWait_zoneHeld w
  | some mv => exact s.workDone_zoneHeld w h

/-- RETURN and CLEAR leave the shuttle reaching into no zone (R164, R167). -/
theorem State.recoverReturn_zoneReached (s : State) (w : Work) : (s.recoverReturn w).zoneReached = none := by
  cases w with
  | job c => exact State.startReturn_zoneReached _ c .endJob
  | manual => rfl

theorem State.recoverClear_zoneReached (s : State) (w : Work) : (s.recoverClear w).zoneReached = none := by
  cases w with
  | job c => exact State.endCurrent_zoneReached _ c [] _ State.enterRest_zoneReached
  | manual => exact s.enterRest_zoneReached

theorem State.recover_zoneHeld (s : State) (n : Nat) (h : s.ZoneHeld) : (s.recover n).ZoneHeld := by
  unfold State.recover
  split
  · rename_i w f m hs
    split
    · exact s.retry_zoneHeld w f m hs h
    · exact s.resume_zoneHeld w m h
    · exact .of_none (s.recoverReturn_zoneReached w)
    · exact .of_none (s.recoverClear_zoneReached w)
  · exact h

theorem State.recoverCommand_zoneHeld (s : State) (w : Write) (h : s.ZoneHeld) : (s.recoverCommand w).ZoneHeld := by
  unfold State.recoverCommand
  split
  · split
    · exact ((State.ZoneStep.refl s).refuse w _ _).held h
    · exact ((State.ZoneStep.refl _).settle.ok w _).held (s.recover_zoneHeld _ h)
  · exact ((State.ZoneStep.refl s).refuse w _ _).held h

theorem State.clearZones_shuttle (is : List Station) : ∀ s : State, (s.clearZones is).shuttle = s.shuttle := by
  induction is with
  | nil => exact fun _ => rfl
  | cons i is ih => exact fun s => ih _

/-- A hall reset leaves the shuttle IDLE or OFFLINE before it closes the zones (R154, R197). -/
theorem State.hallReset_zoneHeld (s : State) : s.hallReset.ZoneHeld := by
  have cleared : (s.hallClear.clearZones allStations).zoneReached = none :=
    (State.zoneReached_congr (State.clearZones_shuttle allStations s.hallClear)).trans (State.enterRest_zoneReached _)
  have evaluated := State.ZoneStep.reevaluateAll allStations (.refl (s.hallClear.clearZones allStations))
  exact evaluated.informDispatcher.settle.held (.of_none cleared)

theorem State.hallResetCommand_zoneHeld (s : State) (w : Write) (h : s.ZoneHeld) : (s.hallResetCommand w).ZoneHeld := by
  unfold State.hallResetCommand
  split
  · split
    · exact ((State.ZoneStep.refl _).ok w _).held s.hallReset_zoneHeld
    · exact ((State.ZoneStep.refl s).refuse w _ _).held h
  · exact ((State.ZoneStep.refl s).refuse w _ _).held h

theorem State.powerOn_zoneHeld (s : State) : s.powerOn.ZoneHeld := by
  unfold State.powerOn
  dsimp only
  split <;> exact .of_none rfl

/-! ### O60: the tenth law -/

/-- Every command keeps the zone IN_USE that the shuttle reaches into (R139, R151). -/
theorem exec_zoneHeld (c : Instr) (s : State) (h : s.ZoneHeld) : ∃ t, exec c s = .next t ∧ t.ZoneHeld := by
  have keeps : s.ZoneStep s := .refl s
  cases c with
  | powerOnReset => exact ⟨_, rfl, s.powerOn_zoneHeld⟩
  | hello i => exact ⟨_, rfl, s.helloRequest_zoneHeld i h⟩
  | setup i f => exact ⟨_, rfl, s.setupRequest_zoneHeld i f h⟩
  | load i m => exact ⟨_, rfl, s.loadRequest_zoneHeld i m h⟩
  | partOff i n sc a => exact ⟨_, rfl, s.partOffRequest_zoneHeld i n sc a h⟩
  | barEnd i m => exact ⟨_, rfl, s.barEndRequest_zoneHeld i m h⟩
  | zoneGrant i w => exact ⟨_, rfl, s.grantRequest_zoneHeld i w h⟩
  | zoneClose i => exact ⟨_, rfl, s.closeRequest_zoneHeld i h⟩
  | status i p => exact ⟨_, rfl, s.statusRequest_zoneHeld i p h⟩
  | detach i => exact ⟨_, rfl, s.detachRequest_zoneHeld i h⟩
  | unknownType i ty => exact ⟨_, rfl, s.unknownTypeRequest_zoneHeld i ty h⟩
  | frameDiscard p bs => exact ⟨_, rfl, State.receiveBytes_zoneHeld p bs s h⟩
  | interByteTimeout p =>
    refine ⟨_, rfl, State.ZoneStep.held ?_ h⟩
    split
    · exact keeps.dropGathered p
    · exact keeps
  | done tag => exact ⟨_, rfl, s.drivePortDone_zoneHeld tag h⟩
  | fault tag code => exact ⟨_, rfl, (keeps.drivePortFault tag code).held h⟩
  | ping tag => exact ⟨_, rfl, (keeps.drivePortPing tag).held h⟩
  | drvRdyRise => exact ⟨_, rfl, keeps.readyRise.settle.held h⟩
  | drvRdyFall => exact ⟨_, rfl, keeps.readyFall.held h⟩
  | pingDue => exact ⟨_, rfl, keeps.sendPing.held h⟩
  | moveDeadline => exact ⟨_, rfl, keeps.expireMove.held h⟩
  | linkTimeout i => exact ⟨_, rfl, (keeps.expireLink i).held h⟩
  | reservationHold i => exact ⟨_, rfl, (keeps.expireResHold i).held h⟩
  | backoffExpiry n => exact ⟨_, rfl, (keeps.expireBackoff n).held h⟩
  | openUntilExpiry i => exact ⟨_, rfl, (keeps.expireOpen i).held h⟩
  | zoneWaitDeadline => exact ⟨_, rfl, s.expireZoneWait_zoneHeld h⟩
  | commandByte b => exact ⟨_, rfl, (keeps.commandByteArrives b.code b.clocked).held h⟩
  | readTransaction n => exact ⟨_, rfl, (keeps.readAnswer n).held h⟩
  | unknownCmd code w => exact ⟨_, rfl, (keeps.refuse w .unknownCmd 0).held h⟩
  | stockEnter w => exact ⟨_, rfl, (keeps.stockEnterCommand w).held h⟩
  | stockRemove w => exact ⟨_, rfl, (keeps.stockRemoveCommand w).held h⟩
  | slotBlock w => exact ⟨_, rfl, (keeps.slotBlockCommand w).held h⟩
  | slotUnblock w => exact ⟨_, rfl, (keeps.slotUnblockCommand w).held h⟩
  | tableCursor w => exact ⟨_, rfl, (keeps.tableCursorCommand w).held h⟩
  | tableRead w => exact ⟨_, rfl, (keeps.tableReadCommand w).held h⟩
  | hallParamRead w | hallParamWrite w => exact ⟨_, rfl, (keeps.hallParamCommand w).held h⟩
  | stationParamRead w | stationParamWrite w => exact ⟨_, rfl, (keeps.stationParamCommand w).held h⟩
  | arbiterOrder w => exact ⟨_, rfl, (keeps.arbiterCommand w).held h⟩
  | hallHold w => exact ⟨_, rfl, (keeps.hallHoldCommand w).held h⟩
  | stationHold w | stationHoldRelease w => exact ⟨_, rfl, (keeps.stationHoldCommand w).held h⟩
  | jobCancel w => exact ⟨_, rfl, (keeps.cancelCommand w).held h⟩
  | toteAdd w => exact ⟨_, rfl, (keeps.toteAddCommand w).held h⟩
  | toteWithdraw w => exact ⟨_, rfl, (keeps.toteWithdrawCommand w).held h⟩
  | outboundCleared w => exact ⟨_, rfl, (keeps.outboundClearedCommand w).held h⟩
  | stationTote w => exact ⟨_, rfl, (keeps.stationToteCommand w).held h⟩
  | recoverRetry w | recoverResume w | recoverReturn w | recoverClear w =>
    exact ⟨_, rfl, s.recoverCommand_zoneHeld w h⟩
  | manualMove w => exact ⟨_, rfl, (keeps.manualCommand w).held h⟩
  | attentionRead w => exact ⟨_, rfl, (keeps.attentionReadCommand w).held h⟩
  | attentionClearAll w => exact ⟨_, rfl, (keeps.attentionClearCommand w).held h⟩
  | attentionEnable w => exact ⟨_, rfl, (keeps.attentionEnableCommand w).held h⟩
  | attentionSummary w => exact ⟨_, rfl, (keeps.attentionSummaryCommand w).held h⟩
  | modeProduction w | modeCommission w => exact ⟨_, rfl, (keeps.modeCommand w).held h⟩
  | hallReset w => exact ⟨_, rfl, s.hallResetCommand_zoneHeld w h⟩
  | stationRestart w => exact ⟨_, rfl, (keeps.stationRestartCommand w).held h⟩
  | missingStopBit p => exact ⟨_, rfl, (keeps.dropGathered p).held h⟩

end

/-- A tick takes the frames off a station's line and leaves the rest of its record. -/
theorem State.advance_station (s : State) (i : Station) : s.advance.station i = (s.station i).sent := by
  simp [State.advance, State.station]

/-- A tick leaves shuttle and zones alone. -/
theorem State.ZoneStep.tick (s : State) : s.ZoneStep s.tick where
  reached := .inl rfl
  inUse := fun i hi => (congrArg StationRec.zone (s.advance_station i)).trans hi

/-- Settles O60: a tick and every command keep the zone IN_USE for the move in flight and the move of the fault. -/
theorem theTenthLawIsKept : Obligations.TheTenthLawIsKept := by
  intro s t h hstep
  suffices ht : t.ZoneHeld from ⟨ht, ht.guarded⟩
  unfold step at hstep
  split at hstep
  · cases hstep
    exact (State.ZoneStep.tick s).held h
  · rename_i c cs _
    obtain ⟨v, hv, hheld⟩ := exec_zoneHeld c { s with pending := cs } h
    rw [hv] at hstep
    cases hstep
    exact hheld

/-! ### Deadlines on the hall clock -/

theorem reached_self (t : Time) : reached t t = true := by simp [reached, elapsed]

theorem reached_iff (now t : Time) : reached now t = true ↔ (now - t).toNat < 2147483648 :=
  decide_eq_true_iff

/-- A time less than half the range ahead is not reached (notes/assumptions/21.md). -/
theorem reached_timeAfter (now : Time) (n : Nat) (h1 : 1 ≤ n) (h2 : n ≤ 2147483648) :
    reached now (timeAfter now n) = false := by
  refine decide_eq_false ?_
  have e : (now - (now + BitVec.ofNat 32 n)).toNat = 4294967296 - n := by bv_omega
  rw [elapsed, timeAfter, e]
  omega

theorem timeLeft_timeAfter (now : Time) (n : Nat) (h1 : 1 ≤ n) (h2 : n ≤ 2147483648) :
    timeLeft now (timeAfter now n) = n := by
  have e : (now + BitVec.ofNat 32 n - now).toNat = n := by bv_omega
  rw [timeLeft, reached_timeAfter now n h1 h2, if_neg (by decide), elapsed, timeAfter, e]

/-! ### ZONE_GRANT and ZONE_CLOSE with no visit waiting (R142, R145) -/

theorem exec_zoneGrant (i : Station) (w : BitVec 16) (s : State) :
    exec (.zoneGrant i w) s = .next (s.grantRequest i w) := rfl

theorem exec_zoneClose (i : Station) (s : State) : exec (.zoneClose i) s = .next (s.closeRequest i) := rfl

/-- Where no visit is being waited at, the admission test does nothing (R143). -/
theorem State.admission_of_no_wait (s : State) (i : Station)
    (h : ∀ c d, s.shuttle = .zoneWait c d → c.job.station ≠ i) : s.admission i = s := by
  unfold State.admission
  split
  · rename_i c d _ hs _
    exact if_neg (h c d hs)
  · rfl

theorem State.grantRequest_out_of_range (s : State) (i : Station) (w : BitVec 16) (hup : s.UpAt i)
    (hw : ¬(10 ≤ w.toNat ∧ w.toNat ≤ 600)) :
    s.grantRequest i w = s.setStation i ((s.station i).answered s.clock (Frame.refused 0x06#8 .range 1)) := by
  refine s.attached_refused i 0x06#8 _ _ hup ?_
  exact if_pos (by omega)

theorem State.grantRequest_late (s : State) (i : Station) (w : BitVec 16) (hup : s.UpAt i)
    (hw : 10 ≤ w.toNat ∧ w.toNat ≤ 600) (hz : (s.station i).zone = .inUse) :
    s.grantRequest i w = s.setStation i ((s.station i).answered s.clock (Frame.refused 0x06#8 .late 0)) := by
  refine s.attached_refused i 0x06#8 _ _ hup ?_
  rw [if_neg (by omega), if_pos (by simpa using hz)]

/-- The record of a granted zone, OPEN until `w` ds from now (R142). -/
def StationRec.opened (r : StationRec) (now : Time) (w : BitVec 16) : StationRec :=
  { r with zone := .opened (timeAfter now w.toNat) }

/-- A grant within the range, at a zone that is not IN_USE: the zone is opened and the admission test runs (R142). -/
theorem State.grantRequest_taken (s : State) (i : Station) (w : BitVec 16) (hup : s.UpAt i)
    (hw : 10 ≤ w.toNat ∧ w.toNat ≤ 600) (hz : (s.station i).zone ≠ .inUse) :
    s.grantRequest i w = (((s.setStation i (((s.station i).taken s.clock).opened s.clock w)).admission i).placeAnswer i
      (s.station i).tx (Frame.ack 0x06#8)).settle := by
  refine s.attached_of i 0x06#8 _ _ _ hup ?_
  rw [if_neg (by omega), if_neg (by simpa using hz)]
  simp [State.setZone, State.modStation, StationRec.opened]

/-- The answer placed on the line of the station whose record was just written (R185). -/
theorem State.setStation_placeAnswer (s : State) (i : Station) (r : StationRec) (before : List Frame) (f : Frame) :
    (s.setStation i r).placeAnswer i before f = s.setStation i { r with tx := before ++ f :: r.tx } := by
  simp [State.placeAnswer, State.modStation]

theorem State.grantRequest_opens (s : State) (i : Station) (w : BitVec 16) (hup : s.UpAt i)
    (hw : 10 ≤ w.toNat ∧ w.toNat ≤ 600) (hz : (s.station i).zone ≠ .inUse)
    (hwait : ∀ c d, s.shuttle = .zoneWait c d → c.job.station ≠ i) :
    s.grantRequest i w =
      s.setStation i (((s.station i).answered s.clock (Frame.ack 0x06#8)).opened s.clock w) := by
  rw [s.grantRequest_taken i w hup hw hz, State.admission_of_no_wait (s.setStation i _) i hwait,
    State.setStation_placeAnswer, State.settle_idle (s.setStation i _) hup.1]
  rfl

theorem State.closeRequest_late (s : State) (i : Station) (hup : s.UpAt i) (hz : (s.station i).zone = .inUse) :
    s.closeRequest i = s.setStation i ((s.station i).answered s.clock (Frame.refused 0x07#8 .late 0)) := by
  refine s.attached_refused i 0x07#8 _ _ hup ?_
  exact if_pos (by simpa using hz)

theorem State.closeRequest_closes (s : State) (i : Station) (hup : s.UpAt i) (hz : (s.station i).zone ≠ .inUse) :
    s.closeRequest i =
      s.setStation i { (s.station i).answered s.clock (Frame.ack 0x07#8) with zone := .closed } := by
  refine s.attached_quiet i 0x07#8 _ _ hup (fun r => { r with zone := .closed }) (fun _ _ => rfl) ?_
  rw [if_neg (by simpa using hz)]
  simp [State.setZone, State.modStation]

/-- Settles O44: each request by the checks it passes. -/
theorem grantsOpenAndClosesClose : Obligations.GrantsOpenAndClosesClose := by
  intro s i w hup
  simp only [exec_zoneGrant, exec_zoneClose]
  refine ⟨fun hw => ?outOfRange, fun hw hz => ?lateGrant, fun hw hz hwait => ?opened, fun hz => ?lateClose,
    fun hz => ?closed⟩
  case outOfRange => rw [s.grantRequest_out_of_range i w hup hw]; rfl
  case lateGrant => rw [s.grantRequest_late i w hup hw hz]; rfl
  case opened => rw [s.grantRequest_opens i w hup hw hz hwait]; rfl
  case lateClose => rw [s.closeRequest_late i hup hz]; rfl
  case closed => rw [s.closeRequest_closes i hup hz]; rfl

/-! ### The expiry of open-until (R146) -/

theorem exec_openUntilExpiry (i : Station) (s : State) : exec (.openUntilExpiry i) s = .next (s.expireOpen i) := rfl

theorem mem_allStations (i : Station) : i ∈ allStations := by
  revert i
  decide

theorem State.openUntilExpiry_mem_due (s : State) (i : Station) (h : s.openUntilDue i = true) :
    .openUntilExpiry i ∈ s.expiriesDue := by
  have hi : .openUntilExpiry i ∈ s.stationDue i := by simp [State.stationDue, dueIf, h]
  have hall : .openUntilExpiry i ∈ allStations.flatMap s.stationDue := List.mem_flatMap.mpr ⟨i, mem_allStations i, hi⟩
  simp [State.expiriesDue, hall]

/-- A tick that brings the hall clock to open-until makes the expiry wait (notes/assumptions/1.md). -/
theorem State.tick_openUntilExpiry (s : State) (i : Station) (h : (s.station i).zone = .opened s.tick.clock) :
    .openUntilExpiry i ∈ s.tick.pending := by
  refine (freelyOrdered_perm _ _).mem_iff.mpr (State.openUntilExpiry_mem_due _ i ?_)
  have hz : (s.advance.station i).zone = .opened s.advance.clock :=
    (congrArg StationRec.zone (s.advance_station i)).trans h
  simp [State.openUntilDue, hz, reached_self]

theorem State.visitAt_iff (s : State) (i : Station) : s.visitAt i = true ↔
    ∃ c ∈ s.current?, c.job.station = i ∧ c.ret = none ∧
      (c.phase = .zoneWait ∨ c.phase = .handoff ∨ c.phase = .swap ∨ c.phase = .place) := by
  unfold State.visitAt
  cases s.current? with
  | none => simp
  | some c => simp [Current.visiting, or_assoc]

theorem State.expireOpen_of_not_due (s : State) (i : Station) (h : s.openUntilDue i = false) : s.expireOpen i = s := by
  simp [State.expireOpen, h]

theorem State.expireOpen_of_not_open (s : State) (i : Station) (h : ∀ till, (s.station i).zone ≠ .opened till) :
    s.expireOpen i = s := by
  refine s.expireOpen_of_not_due i ?_
  unfold State.openUntilDue
  split
  · rename_i till hz
    exact absurd hz (h till)
  · rfl

/-- The expiry at its ds: the zone REQUESTED for a visit in progress, otherwise CLOSED (R146). -/
theorem State.expireOpen_at (s : State) (i : Station) (h : (s.station i).zone = .opened s.clock) :
    s.expireOpen i =
      s.setStation i { s.station i with zone := if s.visitAt i then .requested else .closed } := by
  simp [State.expireOpen, State.openUntilDue, h, reached_self, State.setZone, State.modStation]

/-- A window just granted has not expired. -/
theorem State.expireOpen_granted (s : State) (i : Station) (r : StationRec) (w : BitVec 16)
    (hw : 10 ≤ w.toNat ∧ w.toNat ≤ 600) :
    (s.setStation i (r.opened s.clock w)).expireOpen i = s.setStation i (r.opened s.clock w) := by
  refine State.expireOpen_of_not_due _ i ?_
  simp [State.openUntilDue, StationRec.opened, reached_timeAfter s.clock w.toNat (by omega) (by omega)]

/-- A grant sees of the zone before it only whether it is IN_USE: one given after another state of the zone opens it the
same way (R142). -/
theorem State.grantRequest_opens_after (s : State) (i : Station) (z : Zone) (w : BitVec 16) (hup : s.UpAt i)
    (hw : 10 ≤ w.toNat ∧ w.toNat ≤ 600) (hz : z ≠ .inUse)
    (hwait : ∀ c d, s.shuttle = .zoneWait c d → c.job.station ≠ i) :
    (s.setStation i { s.station i with zone := z }).grantRequest i w =
      s.setStation i (((s.station i).answered s.clock (Frame.ack 0x06#8)).opened s.clock w) := by
  obtain ⟨hdue, hpresent, hlink⟩ := hup
  rw [State.grantRequest_opens (s.setStation i _) i w ⟨hdue, by simpa using hpresent, by simpa using hlink⟩ hw
    (by simpa using hz) hwait]
  simp [StationRec.answered, StationRec.opened]

/-- Settles O46: the tick that queues the expiry, the expiry by whether a visit is in progress, and both orders of an
expiry and a grant at one ds. -/
theorem anOpenZoneExpires : Obligations.AnOpenZoneExpires := by
  intro s i
  simp only [exec_openUntilExpiry, exec_zoneGrant, ← State.visitAt_iff]
  refine ⟨fun t hp hstep hz => ?queued, fun hz => ⟨fun hv => ?visited, fun hv => ?unvisited,
    fun w hup hwait hw1 hw2 => ?together⟩, fun hz => ?notOpen⟩
  case queued =>
    rw [step, hp] at hstep
    cases hstep
    exact s.tick_openUntilExpiry i hz
  case visited => rw [s.expireOpen_at i hz, if_pos hv]
  case unvisited => rw [s.expireOpen_at i hz, if_neg hv]
  case together =>
    have hfree : (s.station i).zone ≠ .inUse := by rw [hz]; nofun
    have hz' : (if s.visitAt i then Zone.requested else .closed) ≠ .inUse := by split <;> nofun
    refine ⟨_, _, congrArg _ (s.grantRequest_opens i w hup ⟨hw1, hw2⟩ hfree hwait),
      congrArg _ (s.expireOpen_granted i _ w ⟨hw1, hw2⟩), congrArg _ (s.expireOpen_at i hz),
      congrArg _ (s.grantRequest_opens_after i _ w hup ⟨hw1, hw2⟩ hz' hwait), ?_⟩
    rw [State.setStation_station_same]
    rfl
  case notOpen => rw [s.expireOpen_of_not_open i hz]

/-! ### A visit withdrawn, and its return (R133, R149) -/

theorem exec_zoneWaitDeadline (s : State) : exec .zoneWaitDeadline s = .next s.expireZoneWait := rfl

/-- An event raised and the shuttle replaced commute. -/
theorem State.raiseEvent_setShuttle (s : State) (c : Cause) (sc : Scope) (d : Nat) (x : Shuttle) :
    (s.setShuttle x).raiseEvent c sc d = (s.raiseEvent c sc d).setShuttle x := by
  unfold State.raiseEvent State.attOf
  rw [State.setShuttle_attention]
  split <;> rfl

/-- The record of a withdrawn visit: ZONE_RELEASED on the line of a present station, the zone CLOSED, H absent (R149
step 2). -/
def StationRec.withdrawn (r : StationRec) (n : Nat) : StationRec :=
  { r with
    zone := .closed
    handoff := none
    tx := r.tx ++ if r.present = true then [Frame.zoneReleasedWithdrawn n] else [] }

theorem State.withdrawVisit_eq (s : State) (i : Station) (n : Nat) :
    s.withdrawVisit i n = s.setStation i ((s.station i).withdrawn n) := by
  unfold State.withdrawVisit State.closeVisit State.modStation StationRec.withdrawn
  cases hp : (s.station i).present with
  | true => simp [s.notify_present i _ hp, hp]
  | false => simp [s.notify_absent i _ hp, hp]

theorem State.zoneTimeout_eq (s : State) (c : Current) (cause : Nat) :
    s.zoneTimeout c cause =
      ((s.raiseEvent .zoneTimeout (.station c.job.station) (cause * 256 + c.job.number)).setStation c.job.station
        ((s.station c.job.station).withdrawn c.job.number)).startReturn c .reQueue := by
  simp only [State.zoneTimeout, State.withdrawVisit_eq, State.raiseEvent_station]

/-- The work of a return that has just set out (R133). -/
def Current.homeward (c : Current) (d : Disposition) (p : Phase) : Work :=
  .job { c with ret := some d, cancel := false, phase := p }

/-- The first move of a return takes a bar to its slot, an empty tote to the stand and a full one to the lane (R133). -/
theorem State.startReturn_of_bar (s : State) (c : Current) (d : Disposition) (b : Bar) (o : SlotIx)
    (h : s.load = .bar b o) : s.startReturn c d = s.issueMove (c.homeward d .toSlot) (.slot o) .travel := by
  rw [State.startReturn, h]
  rfl

theorem State.startReturn_of_empty (s : State) (c : Current) (d : Disposition) (h : s.load = .totes .empty) :
    s.startReturn c d = s.issueMove (c.homeward d .toStand) .stand .travel := by
  rw [State.startReturn, h]
  rfl

theorem State.startReturn_of_full (s : State) (c : Current) (d : Disposition) (n : Nat) (j : Station)
    (h : s.load = .totes (.full n j)) :
    s.startReturn c d = s.issueMove (c.homeward d .toOutbound) .outbound .travel := by
  rw [State.startReturn, h]
  rfl

/-! ### O42: the zone wait deadline (R148) -/

theorem State.expireZoneWait_of_no_wait (s : State) (h : ∀ c d, s.shuttle ≠ .zoneWait c d) : s.expireZoneWait = s := by
  unfold State.expireZoneWait
  split
  · rename_i c d hs
    exact absurd hs (h c d)
  · rfl

theorem State.expireZoneWait_before (s : State) (c : Current) (d : Time) (hs : s.shuttle = .zoneWait c d)
    (h : ¬(s.clock - d).toNat < 2147483648) : s.expireZoneWait = s := by
  rw [State.expireZoneWait, hs]
  exact if_neg (mt (reached_iff s.clock d).mp h)

/-- At the deadline the visit is withdrawn with cause 1 and its return starts (R148, R149). -/
theorem State.expireZoneWait_at (s : State) (c : Current) (d : Time) (hs : s.shuttle = .zoneWait c d)
    (h : (s.clock - d).toNat < 2147483648) : s.expireZoneWait = (s.zoneTimeout c 1).settle := by
  rw [State.expireZoneWait, hs]
  exact if_pos ((reached_iff s.clock d).mpr h)

/-- A move issued after an event that informed nobody ends the event. -/
theorem State.issueMove_settle (s : State) (w : Work) (t : Target) (a : Action) (h : s.dispatchDue = false) :
    (s.issueMove w t a).settle = s.issueMove w t a :=
  State.settle_idle _ ((s.issueMove_dispatchDue w t a).trans h)

/-- Settles O42: nothing without a wait or before the deadline; at it the timeout's equation, by the load. -/
theorem aZoneTimeoutTakesTheLoadHome : Obligations.AZoneTimeoutTakesTheLoadHome := by
  intro s hdue
  refine ⟨fun h => ?noWait, fun c d hs => ⟨fun h => ?early, fun h => ?due⟩⟩
  case noWait => rw [exec_zoneWaitDeadline, s.expireZoneWait_of_no_wait h]
  case early => rw [exec_zoneWaitDeadline, s.expireZoneWait_before c d hs h]
  case due =>
    intro i r withdrawn home
    have hw : s.expireZoneWait = (withdrawn.startReturn c .reQueue).settle := by
      rw [s.expireZoneWait_at c d hs h, s.zoneTimeout_eq c 1]
      rfl
    have hload : withdrawn.load = s.load := s.raiseEvent_load _ _ _
    have hquiet : withdrawn.dispatchDue = false := (s.raiseEvent_dispatchDue _ _ _).trans hdue
    refine ⟨fun b o hl => ?bar, fun hl => ?empty, fun n j hl => ?full⟩
    case bar =>
      rw [exec_zoneWaitDeadline, hw, withdrawn.startReturn_of_bar c _ b o (hload.trans hl),
        State.issueMove_settle _ _ _ _ hquiet]
      rfl
    case empty =>
      rw [exec_zoneWaitDeadline, hw, withdrawn.startReturn_of_empty c _ (hload.trans hl),
        State.issueMove_settle _ _ _ _ hquiet]
      rfl
    case full =>
      rw [exec_zoneWaitDeadline, hw, withdrawn.startReturn_of_full c _ n j (hload.trans hl),
        State.issueMove_settle _ _ _ _ hquiet]
      rfl

/-! ### O45: admission and decline (R143, R144) -/

/-- An answer placed on a line and a move issued commute: the move's timeout reads H only (R123, R185). -/
theorem State.issueMove_placeAnswer (s : State) (w : Work) (t : Target) (a : Action) (i : Station) (before : List Frame)
    (f : Frame) : (s.issueMove w t a).placeAnswer i before f = (s.placeAnswer i before f).issueMove w t a := by
  have hh (j : Station) : ((s.placeAnswer i before f).station j).handoff = (s.station j).handoff := by
    rw [State.placeAnswer, State.modStation_station]
    split
    · rename_i hj
      subst hj
      rfl
    · rfl
  have ht : (s.placeAnswer i before f).moveTimeout t a = s.moveTimeout t a := by
    simp only [State.moveTimeout, hh]
    rfl
  simp only [State.issueMove, ht]
  rfl

theorem State.setStation_setZone (s : State) (i : Station) (r : StationRec) (z : Zone) :
    (s.setStation i r).setZone i z = s.setStation i { r with zone := z } := by
  simp [State.setZone, State.modStation]

theorem State.setStation_setShuttle (s : State) (i : Station) (r : StationRec) (x : Shuttle) :
    (s.setStation i r).setShuttle x = (s.setShuttle x).setStation i r := rfl

/-- A move issued replaces the shuttle state. -/
theorem State.setShuttle_issueMove (s : State) (x : Shuttle) (w : Work) (t : Target) (a : Action) :
    (s.setShuttle x).issueMove w t a = s.issueMove w t a := rfl

/-- The move by which a visit is admitted, by the kind of its job: phase, target and action (R128, R143). -/
def Current.entry (c : Current) : Phase × Target × Action :=
  match c.job.kind with
  | .bar => (.handoff, .cradle c.job.station, .placeBar)
  | .swap => (.swap, .totePort c.job.station, .swapTote)
  | .place => (.place, .totePort c.job.station, .placeTote)

theorem State.admitVisit_eq (s : State) (c : Current) : s.admitVisit c =
    (s.setZone c.job.station .inUse).issueMove (.job { c with phase := c.entry.1 }) c.entry.2.1 c.entry.2.2 := by
  unfold State.admitVisit Current.entry
  cases c.job.kind <;> rfl

/-- The current job with one more deferral (R144). -/
def Current.deferred (c : Current) : Current := { c with job := { c.job with deferral := c.job.deferral + 1 } }

/-- The state in which a visit declined goes on waiting: the zone REQUESTED, ZONE_DECLINE on the line (R144). -/
def State.declined (s : State) (c : Current) (d : Time) (r : StationRec) (hold remaining : Nat) : State :=
  (s.setShuttle (.zoneWait c.deferred d)).setStation c.job.station { r with
    zone := .requested
    tx := r.tx ++ [Frame.zoneDecline c.job.number hold remaining (c.job.deferral + 1)] }

theorem State.decline_eq (s : State) (c : Current) (d : Time) (r : StationRec) (hold remaining : Nat)
    (hp : r.present = true) (hh : r.handoff = some hold) :
    (s.setStation c.job.station r).decline c d remaining =
      if 4 ≤ c.job.deferral + 1 then (s.declined c d r hold remaining).zoneTimeout c.deferred 2
      else s.declined c d r hold remaining := by
  have hs : (((s.setStation c.job.station r).setZone c.job.station .requested).setShuttle
      (.zoneWait c.deferred d)).notify c.job.station
        (Frame.zoneDecline c.job.number hold remaining (c.job.deferral + 1)) = s.declined c d r hold remaining := by
    rw [State.setStation_setZone, State.setStation_setShuttle, State.notify_present _ _ _ (by simpa using hp)]
    simp [State.declined]
  unfold State.decline
  simp only [State.setStation_station_same, hh, Option.getD_some]
  exact congrArg (fun v : State => if 4 ≤ c.job.deferral + 1 then v.zoneTimeout c.deferred 2 else v) hs

/-- A declined visit given up with a bar aboard: what the wait wrote of shuttle and zone is replaced (R149). -/
theorem State.declined_timeout_of_bar (s : State) (c : Current) (d : Time) (r : StationRec) (hold remaining : Nat)
    (b : Bar) (o : SlotIx) (hl : s.load = .bar b o) :
    (s.declined c d r hold remaining).zoneTimeout c.deferred 2 =
      ((s.raiseEvent .zoneTimeout (.station c.job.station) (512 + c.job.number)).setStation c.job.station
        (StationRec.withdrawn { r with
          tx := r.tx ++ [Frame.zoneDecline c.job.number hold remaining (c.job.deferral + 1)] } c.job.number)).issueMove
        (c.deferred.homeward .reQueue .toSlot) (.slot o) .travel := by
  have hload : (s.declined c d r hold remaining).load = .bar b o := hl
  rw [State.zoneTimeout_eq, State.startReturn_of_bar _ _ _ b o (by simpa using hload), State.declined,
    State.raiseEvent_setStation, State.raiseEvent_setShuttle]
  simp only [Current.deferred, State.setStation_setStation, State.setStation_station_same]
  rw [← State.setStation_setShuttle, State.setShuttle_issueMove]
  rfl

/-- The admission test of a visit waiting at a zone just granted a window of `w`, with H the `hold` in its record. -/
theorem State.admission_granted (s : State) (c : Current) (d : Time) (r : StationRec) (w : BitVec 16) (hold : Nat)
    (hs : s.shuttle = .zoneWait c d) (hh : r.handoff = some hold) (hw : 10 ≤ w.toNat ∧ w.toNat ≤ 600) :
    (s.setStation c.job.station (r.opened s.clock w)).admission c.job.station =
      if hold ≤ w.toNat then (s.setStation c.job.station (r.opened s.clock w)).admitVisit c
      else (s.setStation c.job.station (r.opened s.clock w)).decline c d w.toNat := by
  have hleft : timeLeft s.clock (timeAfter s.clock w.toNat) = w.toNat := timeLeft_timeAfter _ _ (by omega) (by omega)
  simp [State.admission, hs, StationRec.opened, hh, hleft]

section
variable (s : State) (w : BitVec 16) (c : Current) (d : Time) (hold : Nat)

/-- A window of at least H admits the visit, with the ACK on the line and the move issued (R143). -/
theorem State.grantRequest_admits (hup : s.UpAt c.job.station) (hs : s.shuttle = .zoneWait c d)
    (hz : (s.station c.job.station).zone ≠ .inUse) (hh : (s.station c.job.station).handoff = some hold)
    (hw : 10 ≤ w.toNat ∧ w.toNat ≤ 600) (hle : hold ≤ w.toNat) :
    s.grantRequest c.job.station w = (s.setStation c.job.station
      { (s.station c.job.station).answered s.clock (Frame.ack 0x06#8) with zone := .inUse }).issueMove
        (.job { c with phase := c.entry.1 }) c.entry.2.1 c.entry.2.2 := by
  rw [s.grantRequest_taken _ w hup hw hz, s.admission_granted c d _ w hold hs (by simpa using hh) hw, if_pos hle,
    State.admitVisit_eq, State.issueMove_placeAnswer, State.issueMove_settle]
  · simp [State.setZone, State.modStation, State.setStation_placeAnswer, StationRec.opened, StationRec.taken,
      StationRec.answered]
  · exact hup.1

/-- A shorter window is declined, and at the fourth decline the wait is given up (R144). -/
theorem State.grantRequest_short (hup : s.UpAt c.job.station) (hs : s.shuttle = .zoneWait c d)
    (hz : (s.station c.job.station).zone ≠ .inUse) (hh : (s.station c.job.station).handoff = some hold)
    (hw : 10 ≤ w.toNat ∧ w.toNat ≤ 600) (hlt : w.toNat < hold) :
    s.grantRequest c.job.station w =
      State.settle (State.placeAnswer
        (if 4 ≤ c.job.deferral + 1 then
          (s.declined c d (((s.station c.job.station).taken s.clock).opened s.clock w) hold w.toNat).zoneTimeout
            c.deferred 2
        else s.declined c d (((s.station c.job.station).taken s.clock).opened s.clock w) hold w.toNat)
        c.job.station (s.station c.job.station).tx (Frame.ack 0x06#8)) := by
  have ⟨_, hpresent, _⟩ := hup
  have hp : (((s.station c.job.station).taken s.clock).opened s.clock w).present = true := hpresent
  rw [s.grantRequest_taken _ w hup hw hz, s.admission_granted c d _ w hold hs (by simpa using hh) hw,
    if_neg (Nat.not_le.mpr hlt), s.decline_eq c d _ hold _ hp hh]

/-- A shorter window is declined; fewer than four times, and the visit goes on waiting (R144). -/
theorem State.grantRequest_declines (hup : s.UpAt c.job.station) (hs : s.shuttle = .zoneWait c d)
    (hz : (s.station c.job.station).zone ≠ .inUse) (hh : (s.station c.job.station).handoff = some hold)
    (hw : 10 ≤ w.toNat ∧ w.toNat ≤ 600) (hlt : w.toNat < hold) (hn : c.job.deferral + 1 < 4) :
    s.grantRequest c.job.station w =
      s.declined c d ((s.station c.job.station).answered s.clock (Frame.ack 0x06#8)) hold w.toNat := by
  rw [s.grantRequest_short w c d hold hup hs hz hh hw hlt, if_neg (Nat.not_le.mpr hn), State.declined,
    State.setStation_placeAnswer, State.settle_idle]
  · simp [State.declined, StationRec.opened, StationRec.taken, StationRec.answered]
  · exact hup.1

/-- The fourth decline is a zone timeout with cause 2; a bar aboard is taken back to its slot (R144, R149). -/
theorem State.grantRequest_withdraws (b : Bar) (o : SlotIx) (hup : s.UpAt c.job.station)
    (hs : s.shuttle = .zoneWait c d) (hz : (s.station c.job.station).zone ≠ .inUse)
    (hh : (s.station c.job.station).handoff = some hold) (hw : 10 ≤ w.toNat ∧ w.toNat ≤ 600) (hlt : w.toNat < hold)
    (hn : 4 ≤ c.job.deferral + 1) (hl : s.load = .bar b o) :
    s.grantRequest c.job.station w =
      ((s.raiseEvent .zoneTimeout (.station c.job.station) (512 + c.job.number)).setStation c.job.station
      { (s.station c.job.station).answered s.clock (Frame.ack 0x06#8) with
        zone := .closed
        handoff := none
        tx := ((s.station c.job.station).answered s.clock (Frame.ack 0x06#8)).tx ++
          [Frame.zoneDecline c.job.number hold w.toNat (c.job.deferral + 1),
            Frame.zoneReleasedWithdrawn c.job.number] }).issueMove
      (c.deferred.homeward .reQueue .toSlot) (.slot o) .travel := by
  have ⟨hdue, hpresent, _⟩ := hup
  rw [s.grantRequest_short w c d hold hup hs hz hh hw hlt, if_pos hn,
    s.declined_timeout_of_bar c d _ hold _ b o hl, State.issueMove_placeAnswer, State.issueMove_settle,
    State.setStation_placeAnswer]
  · simp [StationRec.withdrawn, StationRec.opened, StationRec.taken, StationRec.answered, hpresent]
  · exact (State.raiseEvent_dispatchDue _ _ _ _).trans hdue

end

/-- Settles O45: the three outcomes of the admission test, the move of an admission by the job's kind. -/
theorem aGrantIsAdmittedOrDeclined : Obligations.AGrantIsAdmittedOrDeclined := by
  intro s i w c d hold hup hs hi hz hh hw1 hw2
  subst hi
  intro r taken n declined
  refine ⟨fun hle => ?admitted, fun hlt => ⟨fun hn => ?declined, fun b o hn hl => ?withdrawn⟩⟩
  case admitted =>
    rw [exec_zoneGrant, s.grantRequest_admits w c d hold hup hs hz hh ⟨hw1, hw2⟩ hle]
    refine ⟨fun hk => ?_, fun hk => ?_, fun hk => ?_⟩
    all_goals
      rw [Current.entry, hk]
      rfl
  case declined =>
    rw [exec_zoneGrant, s.grantRequest_declines w c d hold hup hs hz hh ⟨hw1, hw2⟩ hlt hn]
    rfl
  case withdrawn =>
    rw [exec_zoneGrant, s.grantRequest_withdraws w c d hold b o hup hs hz hh ⟨hw1, hw2⟩ hlt hn hl]
    rfl

end Sys2Proof.Machine
end
